-- ==== Sys2Proof/Word.lean ====
section
/-! DEFINITION. The word types of the block: bytes, nibbles and the time base (00_scope.md R15, 60_exceptions.md R240). -/

namespace Sys2Proof

/-- A byte: bit 7 is the most significant (R15). -/
abbrev Byte := BitVec 8

/-- A 4-bit field: a nibble of a frame byte, or a command word (R15, R76). -/
abbrev Nibble := BitVec 4

/-- A reading of the wrapping 32-bit millisecond counter `Now()` (R240). -/
abbrev Millis := BitVec 32

/-- A complete candidate frame `F = (x[0], ..., x[10])` in wire order (R21, R60). -/
abbrev Frame := Vector Byte 11

end Sys2Proof
end

