-- ==== Sys2Proof/Syntax.lean ====
section
/-! DEFINITION. The instructions of opcode_table.json, one constructor per row, and the closed enumerations they name
(00_scope.md R9, R18; 30_encoding.md R60 to R66, R76, R79). -/

namespace Sys2Proof

/-- The board variant (R9); at the interface 0 = UNKNOWN, 1 = VARIANT_A (R28, R76). -/
inductive Board where
  | unknown
  | variantA
deriving DecidableEq, Repr

/-- The closed set of 15 functions, in the source's order (R64). -/
inductive Func where
  | volt | curUa | curMa | curAuto | curMan | res | cont | diode | freq | cap | temp | adp0 | adp1 | adp2 | adp3
deriving DecidableEq, Repr

/-- The four base decimal placements `X.XXX`, `XX.XX`, `XXX.X`, `XXXX` (R65). -/
inductive Placement where
  | p0 | p1 | p2 | p3
deriving DecidableEq, Repr

/-- The causes of a LostSync, `r_cause` (R79, R223); `none` is "not a LostSync". -/
inductive Cause where
  | none
  | invalidDigits
  | invalidFunction
  | invalidRange
  | invalidStatusOption
  | invalidTerminator
  | notSynced
deriving DecidableEq, Repr

/-- The free fields every decode row has: four digits and three flag nibbles (R62, `free_fields` of the table). -/
structure Payload where
  d3 : Nibble
  d2 : Nibble
  d1 : Nibble
  d0 : Nibble
  st : Nibble
  o1 : Nibble
  o2 : Nibble
deriving DecidableEq, Repr

/-- One constructor per row of opcode_table.json: the 37 decode rows of `FRAME11`, then the 8 commands of `CMD4`.
A row of a function without a range table also has its range nibble as an operand, which is free there (R69). -/
inductive Instr where
  | volt0 (p : Payload)
  | volt1 (p : Payload)
  | volt2 (p : Payload)
  | volt3 (p : Payload)
  | volt4 (p : Payload)
  | curUa0 (p : Payload)
  | curUa1 (p : Payload)
  | curMa0 (p : Payload)
  | curMa1 (p : Payload)
  | curAuto0 (p : Payload)
  | curAuto1 (p : Payload)
  | curMan (rng : Nibble) (p : Payload)
  | res0 (p : Payload)
  | res1 (p : Payload)
  | res2 (p : Payload)
  | res3 (p : Payload)
  | res4 (p : Payload)
  | res5 (p : Payload)
  | cont (rng : Nibble) (p : Payload)
  | diode (rng : Nibble) (p : Payload)
  | freq0 (p : Payload)
  | freq1 (p : Payload)
  | freq2 (p : Payload)
  | freq3 (p : Payload)
  | freq4 (p : Payload)
  | cap0 (p : Payload)
  | cap1 (p : Payload)
  | cap2 (p : Payload)
  | cap3 (p : Payload)
  | cap4 (p : Payload)
  | cap5 (p : Payload)
  | cap6 (p : Payload)
  | temp (rng : Nibble) (p : Payload)
  | adp0 (rng : Nibble) (p : Payload)
  | adp1 (rng : Nibble) (p : Payload)
  | adp2 (rng : Nibble) (p : Payload)
  | adp3 (rng : Nibble) (p : Payload)
  | init (board : Board)
  | sync
  | acqNb
  | acqB
  | discard
  | teardown
  | reserved0
  | reserved7
deriving DecidableEq, Repr

end Sys2Proof
end

