-- ==== Sys2Proof/Config.lean ====
section
/-! DEFINITION. What an implementation fixes: the code map `CFG`, the deadlines and the range-nibble switch
(00_scope.md R10, R11; 43_range_decoder.md R144), and the one free value, the unit labels (45_units.md R196).
The reference code map `CFG_REF` stands in Machine/CodeMap.lean. -/

namespace Sys2Proof

/-- One row of the range table of a function: its 4-bit code, its placement and the decimal exponent of its scale
(R11, R141). -/
structure RangeRow where
  code : Nibble
  placement : Placement
  scale10 : Int
deriving DecidableEq, Repr

/-- The parameters of the block's step (R11, R37): plain data, so that a state can carry them and every statement can
range over all of them. The rows of a range table stand in the order in which the source lists the ranges (R71);
row `i` of `volt` is the table's `VOLT.i`, and so on. -/
structure Cfg where
  /-- `CFG.func`, in the order of `Func` (R64). -/
  funcCodes : Vector Nibble 15
  volt : Vector RangeRow 5
  curUa : Vector RangeRow 2
  curMa : Vector RangeRow 2
  curAuto : Vector RangeRow 2
  res : Vector RangeRow 6
  freq : Vector RangeRow 5
  cap : Vector RangeRow 7
  bitOL : Fin 4
  bitSIGN : Fin 4
  bitBATT : Fin 4
  bitJUDGE : Fin 4
  bitHOLD : Fin 4
  bitDC : Fin 4
  bitAC : Fin 4
  bitAUTO : Fin 4
  /-- `DEADLINE_MS(UNKNOWN)` (R10). -/
  deadlineUnknown : Nat
  /-- `DEADLINE_MS(VARIANT_A)` (R10). -/
  deadlineVariantA : Nat
  /-- `RANGE_NIBBLE_CHECK_ALWAYS` (R144). -/
  rangeNibbleAlways : Bool
deriving DecidableEq, Repr

/-- The label of the unit with a given code, for the units whose label the source does not give (R196).
DESIGN CHOICE, safe: a free value, nothing can be proved of it (log 17). -/
opaque Config.freeLabel : BitVec 4 → String

end Sys2Proof
end

