-- ==== Sys2Proof/Machine/CodeMap.lean ====
section
/-! DEFINITION. Reading the code map: `CFG.func` and its inverse, the range table as the LUT, the deadline, the
constraints the source puts on `CFG` (00_scope.md R10, R11; 20_memory.md R48, R49; 30_encoding.md R64, R65), and the
reference code map `CFG_REF` (30_encoding.md R70 to R74; 43_range_decoder.md R150 to R163). -/

namespace Sys2Proof

/-- The place of a function in the source's order (R64). -/
def Func.index : Func → Fin 15
  | .volt => 0
  | .curUa => 1
  | .curMa => 2
  | .curAuto => 3
  | .curMan => 4
  | .res => 5
  | .cont => 6
  | .diode => 7
  | .freq => 8
  | .cap => 9
  | .temp => 10
  | .adp0 => 11
  | .adp1 => 12
  | .adp2 => 13
  | .adp3 => 14

/-- All functions, in the source's order (R64). -/
def Func.all : List Func :=
  [.volt, .curUa, .curMa, .curAuto, .curMan, .res, .cont, .diode, .freq, .cap, .temp, .adp0, .adp1, .adp2, .adp3]

/-- The seven functions that have a range table (R48, R148). -/
def Func.hasRanges : Func → Bool
  | .volt => true
  | .curUa => true
  | .curMa => true
  | .curAuto => true
  | .curMan => false
  | .res => true
  | .cont => false
  | .diode => false
  | .freq => true
  | .cap => true
  | .temp => false
  | .adp0 => false
  | .adp1 => false
  | .adp2 => false
  | .adp3 => false

/-- `pexp`, the decimal exponent of a placement (R65). -/
def Placement.pexp : Placement → Int
  | .p0 => -3
  | .p1 => -2
  | .p2 => -1
  | .p3 => 0

/-- `exp10 = pexp + scale10` (R142). -/
def RangeRow.exp10 (r : RangeRow) : Int := r.placement.pexp + r.scale10

/-- `CFG.func(f)` (R64). -/
def Cfg.code (c : Cfg) (f : Func) : Nibble := c.funcCodes[f.index]

/-- `FuncOf(fn)`: the function whose code is `fn`, or none (R64). -/
def Cfg.funcOf (c : Cfg) (fn : Nibble) : Option Func := Func.all.find? fun f => c.code f == fn

/-- `CFG.ranges(f)` as a list; empty for the eight functions without a table (R48). -/
def Cfg.ranges (c : Cfg) : Func → List RangeRow
  | .volt => c.volt.toList
  | .curUa => c.curUa.toList
  | .curMa => c.curMa.toList
  | .curAuto => c.curAuto.toList
  | .curMan => []
  | .res => c.res.toList
  | .cont => []
  | .diode => []
  | .freq => c.freq.toList
  | .cap => c.cap.toList
  | .temp => []
  | .adp0 => []
  | .adp1 => []
  | .adp2 => []
  | .adp3 => []

/-- `MemRead(LUT, (f, r))`: the row of `f` with code `r`, or `NoRow` (R49). -/
def Cfg.lut (c : Cfg) (f : Func) (r : Nibble) : Option RangeRow := (c.ranges f).find? fun row => row.code == r

/-- `DEADLINE_MS(board)` (R10). -/
def Cfg.deadline (c : Cfg) : Board → Nat
  | .unknown => c.deadlineUnknown
  | .variantA => c.deadlineVariantA

/-- The (placement, scale) content of a list of rows, codes left out. -/
def RangeRow.contents (rows : List RangeRow) : List (Placement × Int) := rows.map fun r => (r.placement, r.scale10)

/-- The scales of the rows are exactly those of `scales`: each row has one of them, and each is the scale of a row
(R149). -/
def RangeRow.scalesAre (rows : List RangeRow) (scales : List Int) : Bool :=
  rows.all (fun r => decide (r.scale10 ∈ scales)) && scales.all (fun x => decide (x ∈ rows.map (·.scale10)))

/-- The constraints the source puts on the code map (R11, R149): function codes distinct; range codes distinct within a
function; the content of the VOLT and CUR rows as the source gives it; the sets of scales of RES, FREQ and CAP (R159,
R162, R163) and the one RES row `4.000 kΩ`; flag positions distinct within a byte. -/
def Cfg.valid (c : Cfg) : Bool :=
  decide ((Func.all.map c.code).Nodup) &&
  Func.all.all (fun f => decide (((c.ranges f).map (·.code)).Nodup)) &&
  decide (RangeRow.contents c.volt.toList = [(.p0, 0), (.p1, 0), (.p2, 0), (.p3, 0), (.p2, -3)]) &&
  decide (RangeRow.contents c.curUa.toList = [(.p2, 0), (.p3, 0)]) &&
  decide (RangeRow.contents c.curMa.toList = [(.p1, 0), (.p2, 0)]) &&
  decide (RangeRow.contents c.curAuto.toList = [(.p0, 0), (.p1, 0)]) &&
  RangeRow.scalesAre c.res.toList [0, 3, 6] &&
  decide ((Placement.p0, (3 : Int)) ∈ RangeRow.contents c.res.toList) &&
  RangeRow.scalesAre c.freq.toList [3, 6] &&
  RangeRow.scalesAre c.cap.toList [-3, -6, -9] &&
  decide ([c.bitOL, c.bitSIGN, c.bitBATT, c.bitJUDGE].Nodup) &&
  decide ([c.bitDC, c.bitAC, c.bitAUTO].Nodup)

/-- `CFG_REF` with the default deadlines and the range-nibble check on (R10, R70 to R74, R144, R150 to R163).
PRESUMED, unsafe: the spec marks the code values, the flag positions and 17 of the 29 rows as its own choice, from
general knowledge of the device family (log 2). -/
def cfgRef : Cfg where
  funcCodes := #v[0xB, 0xD, 0x9, 0xF, 0x0, 0x3, 0x5, 0x1, 0x2, 0x6, 0x4, 0xE, 0xC, 0x8, 0xA]
  volt := #v[⟨0, .p0, 0⟩, ⟨1, .p1, 0⟩, ⟨2, .p2, 0⟩, ⟨3, .p3, 0⟩, ⟨4, .p2, -3⟩]
  curUa := #v[⟨0, .p2, 0⟩, ⟨1, .p3, 0⟩]
  curMa := #v[⟨0, .p1, 0⟩, ⟨1, .p2, 0⟩]
  curAuto := #v[⟨0, .p0, 0⟩, ⟨1, .p1, 0⟩]
  res := #v[⟨0, .p2, 0⟩, ⟨1, .p0, 3⟩, ⟨2, .p1, 3⟩, ⟨3, .p2, 3⟩, ⟨4, .p0, 6⟩, ⟨5, .p1, 6⟩]
  freq := #v[⟨0, .p0, 3⟩, ⟨1, .p1, 3⟩, ⟨2, .p2, 3⟩, ⟨3, .p0, 6⟩, ⟨4, .p1, 6⟩]
  cap := #v[⟨0, .p0, -9⟩, ⟨1, .p1, -9⟩, ⟨2, .p2, -9⟩, ⟨3, .p0, -6⟩, ⟨4, .p1, -6⟩, ⟨5, .p2, -6⟩, ⟨6, .p0, -3⟩]
  bitOL := 0
  bitSIGN := 2
  bitBATT := 1
  bitJUDGE := 3
  bitHOLD := 1
  bitDC := 3
  bitAC := 2
  bitAUTO := 1
  deadlineUnknown := 3000
  deadlineVariantA := 3000
  rangeNibbleAlways := true

end Sys2Proof
end

