-- ==== Sys2Proof/Machine/Wire.lean ====
section
/-! DEFINITION. Bytes and bit fields on the wire: nibbles of a byte, the terminator bytes, the frame of given fields, the
88-bit frame word (00_scope.md R12, R15; 30_encoding.md R60 to R63). -/

namespace Sys2Proof

/-- `CR = 0x0D` (R12). -/
def CR : Byte := 0x0D

/-- `LF = 0x0A` (R12). -/
def LF : Byte := 0x0A

/-- `NIB_HI`: the upper nibble of every structural byte (R8). -/
def nibHi : Nibble := 0x3

/-- The upper nibble `b[7:4]` (R15). -/
def hiNib (b : Byte) : Nibble := b.extractLsb' 4 4

/-- The lower nibble `b[3:0]` (R15). -/
def loNib (b : Byte) : Nibble := b.extractLsb' 0 4

/-- `0x30 | value` (R15, R60). -/
def structural (v : Nibble) : Byte := nibHi ++ v

/-- The digits and flag nibbles of a frame (R62). -/
def framePayload (F : Frame) : Payload :=
  ⟨loNib F[1], loNib F[2], loNib F[3], loNib F[4], loNib F[6], loNib F[7], loNib F[8]⟩

/-- The frame with range code `rng`, function code `fn` and payload `p` (R60). -/
def frameOf (rng fn : Nibble) (p : Payload) : Frame :=
  #v[structural rng, structural p.d3, structural p.d2, structural p.d1, structural p.d0, structural fn,
     structural p.st, structural p.o1, structural p.o2, CR, LF]

/-- Byte `i` of the 88-bit frame word `W`: bits `87-8i` down to `80-8i` (R61). -/
def wordByte (w i : Nat) : Byte := BitVec.ofNat 8 (w >>> (80 - 8 * i))

/-- The frame whose frame word is `w` (R61). -/
def frameOfWord (w : Nat) : Frame :=
  #v[wordByte w 0, wordByte w 1, wordByte w 2, wordByte w 3, wordByte w 4, wordByte w 5,
     wordByte w 6, wordByte w 7, wordByte w 8, wordByte w 9, wordByte w 10]

/-- The reading in counts, `1000·d3 + 100·d2 + 10·d1 + d0` (R63, R142). -/
def Payload.counts (p : Payload) : Nat :=
  1000 * p.d3.toNat + 100 * p.d2.toNat + 10 * p.d1.toNat + p.d0.toNat

end Sys2Proof
end

