-- ==== Sys2Proof/WellFormed.lean ====
section
/-! DEFINITION. Which instruction terms the encoding admits: the digit bounds of a decode row (30_encoding.md R60, R61,
R63; 42_validator.md R122). Every operand of a command is admitted. -/

namespace Sys2Proof

/-- `d3 ≤ 4`, the others `≤ 9` (R122). -/
def Payload.wf (p : Payload) : Bool :=
  p.d3.toNat ≤ 4 && p.d2.toNat ≤ 9 && p.d1.toNat ≤ 9 && p.d0.toNat ≤ 9

/-- The payload of a decode row; a command has none. -/
def Instr.payload? : Instr → Option Payload
  | .volt0 p => some p
  | .volt1 p => some p
  | .volt2 p => some p
  | .volt3 p => some p
  | .volt4 p => some p
  | .curUa0 p => some p
  | .curUa1 p => some p
  | .curMa0 p => some p
  | .curMa1 p => some p
  | .curAuto0 p => some p
  | .curAuto1 p => some p
  | .curMan _ p => some p
  | .res0 p => some p
  | .res1 p => some p
  | .res2 p => some p
  | .res3 p => some p
  | .res4 p => some p
  | .res5 p => some p
  | .cont _ p => some p
  | .diode _ p => some p
  | .freq0 p => some p
  | .freq1 p => some p
  | .freq2 p => some p
  | .freq3 p => some p
  | .freq4 p => some p
  | .cap0 p => some p
  | .cap1 p => some p
  | .cap2 p => some p
  | .cap3 p => some p
  | .cap4 p => some p
  | .cap5 p => some p
  | .cap6 p => some p
  | .temp _ p => some p
  | .adp0 _ p => some p
  | .adp1 _ p => some p
  | .adp2 _ p => some p
  | .adp3 _ p => some p
  | .init _ => none
  | .sync => none
  | .acqNb => none
  | .acqB => none
  | .discard => none
  | .teardown => none
  | .reserved0 => none
  | .reserved7 => none

/-- A well-formed instruction: every digit within the bounds of its place (R61, R122). -/
def Instr.wf (i : Instr) : Bool :=
  match i.payload? with
  | some p => p.wf
  | none => true

end Sys2Proof
end

