-- ==== Sys2Proof/Decode.lean ====
section
/-! DEFINITION. The decoder: the Frame Validator (42_validator.md), the selection of the decode row (30_encoding.md R68,
R69; 43_range_decoder.md R143, R144), the command word (30_encoding.md R76); then the encoder, and the table's numbering
of an instruction's bits (30_encoding.md R61). -/

namespace Sys2Proof

/-- `Validate(F)`: none is `Good`, `some c` is `Bad(c)`; the five checks in the source's order (R120 to R125). -/
def validate (c : Cfg) (F : Frame) : Option Cause :=
  if hiNib F[1] ≠ nibHi ∨ hiNib F[2] ≠ nibHi ∨ hiNib F[3] ≠ nibHi ∨ hiNib F[4] ≠ nibHi then some .invalidDigits
  else if (loNib F[1]).toNat > 4 then some .invalidDigits
  else if (loNib F[2]).toNat > 9 ∨ (loNib F[3]).toNat > 9 ∨ (loNib F[4]).toNat > 9 then some .invalidDigits
  else if hiNib F[5] ≠ nibHi then some .invalidFunction
  else if c.funcOf (loNib F[5]) = none then some .invalidFunction
  else if hiNib F[6] ≠ nibHi ∨ hiNib F[7] ≠ nibHi ∨ hiNib F[8] ≠ nibHi then some .invalidStatusOption
  else if F[9] ≠ CR ∨ F[10] ≠ LF then some .invalidTerminator
  else none

/-- The row whose range code is `rng`; `NoRow` is an invalid range (R49, R143). -/
def pickRow (rng : Nibble) : List (RangeRow × Instr) → Except Cause Instr
  | [] => .error .invalidRange
  | (row, i) :: rest => if row.code = rng then .ok i else pickRow rng rest

/-- The decode row of function `f` and range nibble `rng` (R69, R148). -/
def rowInstr (c : Cfg) (f : Func) (rng : Nibble) (p : Payload) : Except Cause Instr :=
  match f with
  | .volt => pickRow rng
      [(c.volt[0], .volt0 p), (c.volt[1], .volt1 p), (c.volt[2], .volt2 p), (c.volt[3], .volt3 p), (c.volt[4], .volt4 p)]
  | .curUa => pickRow rng [(c.curUa[0], .curUa0 p), (c.curUa[1], .curUa1 p)]
  | .curMa => pickRow rng [(c.curMa[0], .curMa0 p), (c.curMa[1], .curMa1 p)]
  | .curAuto => pickRow rng [(c.curAuto[0], .curAuto0 p), (c.curAuto[1], .curAuto1 p)]
  | .curMan => .ok (.curMan rng p)
  | .res => pickRow rng
      [(c.res[0], .res0 p), (c.res[1], .res1 p), (c.res[2], .res2 p), (c.res[3], .res3 p), (c.res[4], .res4 p),
       (c.res[5], .res5 p)]
  | .cont => .ok (.cont rng p)
  | .diode => .ok (.diode rng p)
  | .freq => pickRow rng
      [(c.freq[0], .freq0 p), (c.freq[1], .freq1 p), (c.freq[2], .freq2 p), (c.freq[3], .freq3 p), (c.freq[4], .freq4 p)]
  | .cap => pickRow rng
      [(c.cap[0], .cap0 p), (c.cap[1], .cap1 p), (c.cap[2], .cap2 p), (c.cap[3], .cap3 p), (c.cap[4], .cap4 p),
       (c.cap[5], .cap5 p), (c.cap[6], .cap6 p)]
  | .temp => .ok (.temp rng p)
  | .adp0 => .ok (.adp0 rng p)
  | .adp1 => .ok (.adp1 rng p)
  | .adp2 => .ok (.adp2 rng p)
  | .adp3 => .ok (.adp3 rng p)

/-- The range step of `Decode(F, board)`, made on a frame that passed the Validator: the upper nibble of the range byte,
then the row (R140, R143, R144). A table function always needs the nibble, since its codes are the bytes `0x30 | code`. -/
def selectRow (c : Cfg) (F : Frame) : Except Cause Instr :=
  match c.funcOf (loNib F[5]) with
  | none => .error .invalidFunction
  | some f =>
    if hiNib F[0] ≠ nibHi ∧ (c.rangeNibbleAlways = true ∨ f.hasRanges = true) then .error .invalidRange
    else rowInstr c f (loNib F[0]) (framePayload F)

/-- Every candidate frame is good, and then one decode row, or bad with one cause (R81); the range comes last (R128,
R228). -/
def decodeFrame (c : Cfg) (F : Frame) : Except Cause Instr :=
  match validate c F with
  | some e => .error e
  | none => selectRow c F

/-- `cmd_word[2:0] = op`, `cmd_word[3] = board`, read by INIT only (R76). -/
def decodeCommand (w : Nibble) : Instr :=
  match (w.extractLsb' 0 3).toNat with
  | 0 => .reserved0
  | 1 => .init (if w.getLsbD 3 then .variantA else .unknown)
  | 2 => .sync
  | 3 => .acqNb
  | 4 => .acqB
  | 5 => .discard
  | 6 => .teardown
  | _ => .reserved7

/-- Why a byte string is no instruction. -/
inductive Reject where
  /-- 11 bytes that are a bad frame, with the cause the block reports (R81). -/
  | badFrame (c : Cause)
  /-- One byte that is no 4-bit command word (R76). -/
  | notCommandWord
  /-- Neither one command word nor one frame (R84). -/
  | badLength
deriving DecidableEq, Repr

/-- The decoder, total on any bytes: one byte is a command word, 11 bytes are a frame in wire order. -/
def decode (c : Cfg) : List Byte → Except Reject Instr
  | [w] => if hiNib w = 0 then .ok (decodeCommand (loNib w)) else .error .notCommandWord
  | [b0, b1, b2, b3, b4, b5, b6, b7, b8, b9, b10] =>
    match decodeFrame c #v[b0, b1, b2, b3, b4, b5, b6, b7, b8, b9, b10] with
    | .ok i => .ok i
    | .error e => .error (.badFrame e)
  | _ => .error .badLength

/-- The command byte of an `op` code and the board bit (R76). -/
def commandByte (board : Bool) (op : BitVec 3) : List Byte := [(0 : Nibble) ++ (BitVec.ofBool board ++ op)]

/-- The bytes of a decode row: range nibble, function, payload (R60). -/
def frameBytes (c : Cfg) (rng : Nibble) (f : Func) (p : Payload) : List Byte := (frameOf rng (c.code f) p).toList

/-- The encoder: the bytes of an instruction, in wire order, under a code map (R60, R69, R76). -/
def encode (c : Cfg) : Instr → List Byte
  | .volt0 p => frameBytes c c.volt[0].code .volt p
  | .volt1 p => frameBytes c c.volt[1].code .volt p
  | .volt2 p => frameBytes c c.volt[2].code .volt p
  | .volt3 p => frameBytes c c.volt[3].code .volt p
  | .volt4 p => frameBytes c c.volt[4].code .volt p
  | .curUa0 p => frameBytes c c.curUa[0].code .curUa p
  | .curUa1 p => frameBytes c c.curUa[1].code .curUa p
  | .curMa0 p => frameBytes c c.curMa[0].code .curMa p
  | .curMa1 p => frameBytes c c.curMa[1].code .curMa p
  | .curAuto0 p => frameBytes c c.curAuto[0].code .curAuto p
  | .curAuto1 p => frameBytes c c.curAuto[1].code .curAuto p
  | .curMan rng p => frameBytes c rng .curMan p
  | .res0 p => frameBytes c c.res[0].code .res p
  | .res1 p => frameBytes c c.res[1].code .res p
  | .res2 p => frameBytes c c.res[2].code .res p
  | .res3 p => frameBytes c c.res[3].code .res p
  | .res4 p => frameBytes c c.res[4].code .res p
  | .res5 p => frameBytes c c.res[5].code .res p
  | .cont rng p => frameBytes c rng .cont p
  | .diode rng p => frameBytes c rng .diode p
  | .freq0 p => frameBytes c c.freq[0].code .freq p
  | .freq1 p => frameBytes c c.freq[1].code .freq p
  | .freq2 p => frameBytes c c.freq[2].code .freq p
  | .freq3 p => frameBytes c c.freq[3].code .freq p
  | .freq4 p => frameBytes c c.freq[4].code .freq p
  | .cap0 p => frameBytes c c.cap[0].code .cap p
  | .cap1 p => frameBytes c c.cap[1].code .cap p
  | .cap2 p => frameBytes c c.cap[2].code .cap p
  | .cap3 p => frameBytes c c.cap[3].code .cap p
  | .cap4 p => frameBytes c c.cap[4].code .cap p
  | .cap5 p => frameBytes c c.cap[5].code .cap p
  | .cap6 p => frameBytes c c.cap[6].code .cap p
  | .temp rng p => frameBytes c rng .temp p
  | .adp0 rng p => frameBytes c rng .adp0 p
  | .adp1 rng p => frameBytes c rng .adp1 p
  | .adp2 rng p => frameBytes c rng .adp2 p
  | .adp3 rng p => frameBytes c rng .adp3 p
  | .init b => commandByte (b == .variantA) 1
  | .sync => commandByte false 2
  | .acqNb => commandByte false 3
  | .acqB => commandByte false 4
  | .discard => commandByte false 5
  | .teardown => commandByte false 6
  | .reserved0 => commandByte false 0
  | .reserved7 => commandByte false 7

/-- The bytes of an instruction of `nbits` bits numbered as the table numbers them: a frame is one 88-bit word with byte
0 in the most significant place (R61, log 3), a command is one byte holding the 4-bit word (R76, log 4). -/
def tableBytes (nbits w : Nat) : List Byte :=
  if nbits = 88 then (frameOfWord w).toList
  else if nbits ≤ 8 ∧ w < 256 then [BitVec.ofNat 8 w]
  else []

/-- The instruction the decoder reads from a row's bits `w`, under `CFG_REF`; none where it rejects. -/
def decodeTableWord (nbits w : Nat) : Option Instr :=
  match decode cfgRef (tableBytes nbits w) with
  | .ok i => some i
  | .error _ => none

end Sys2Proof
end

