-- ==== Sys2Proof/Machine/State.lean ====
section
/-! DEFINITION. The machine's state: the parameters of the step, the block's registers and outputs (10_state.md), the
command in progress, and the environment the block looks at (20_memory.md R41). -/

namespace Sys2Proof.Machine

/-- `r_code`, the response kinds (30_encoding.md R78). -/
inductive RespCode where
  | ok
  | wouldBlock
  | lostSync
  | syncTimeout
  | transportFailure
  | noSession
  | initFailure
  | badCommand
deriving DecidableEq, Repr

/-- `s_unit`, the unit codes that are ever produced (45_units.md R195). -/
inductive UnitCode where
  | none | v | ua | ma | a | ohm | hz | f | degC | degF | adp
deriving DecidableEq, Repr

/-- The Sample outputs (10_state.md R33). -/
structure Sample where
  sFunc : Byte
  sSent : Bool
  sNeg : Bool
  sMant : BitVec 13
  sExp : BitVec 5
  sOverflow : Bool
  sDcMode : Bool
  sAutoMode : Bool
  sDegree : Bool
  sBatteryLow : Bool
  sHold : Bool
  sBoard : Board
  sUnit : UnitCode
deriving DecidableEq, Repr

/-- The transport's answer to one poll (20_memory.md R42, R44): `deliver k` hands over `k` bytes, or as many as the
request and the queue allow; `fail` is `Fail`. -/
inductive RxAnswer where
  | deliver (k : Nat)
  | fail
deriving DecidableEq, Repr

/-- The transport's answer to `TOpen()` (20_memory.md R47): `ok` comes with the content of `Q` after it. -/
inductive OpenAnswer where
  | ok (q : List Byte)
  | fail
deriving DecidableEq, Repr

/-- One turn of the environment: what stands on the block's inputs at one interaction (30_encoding.md R75). The bytes in
`arrive` have come to the back of `Q` since the turn before (20_memory.md R41). DESIGN CHOICE, safe (logs 5, 9). -/
structure Turn where
  /-- `rst` is asserted (70_reset_and_hazards.md R250). -/
  rst : Bool
  /-- `cmd_valid` and `cmd_word` (R75, R76). -/
  cmd : Option Nibble
  arrive : List Byte
  /-- `now_ms` (60_exceptions.md R240). -/
  now : Millis
  /-- The answer to a poll, if one is made in this turn. -/
  rx : RxAnswer
  /-- The answer to `TOpen`, if it is called in this turn. -/
  topen : OpenAnswer
deriving DecidableEq, Repr

/-- Which command runs the Accumulator (40_accumulator.md R100): ACQ.NB, ACQ.B, or the drain loop of DISCARD. -/
inductive Acq where
  | nonblocking
  | blocking
  | drain
deriving DecidableEq, Repr

/-- The command in progress; `cmd_ready` is 1 exactly when it is `idle` (30_encoding.md R75, 46_session_ops.md R207).
DESIGN CHOICE, safe (log 8). -/
inductive Phase where
  /-- No command runs. -/
  | idle
  /-- INIT has called `TOpen` and waits for its answer (R200). -/
  | opening (b : Board)
  /-- `Synchronize` scans (41_synchronizer.md R110). -/
  | scanning
  /-- `Accumulate` polls (40_accumulator.md R100). -/
  | gathering (a : Acq)
  /-- A frame is complete in `x[0..10]` and `cnt` is 0 again; it is validated and decoded next (R206). -/
  | captured (a : Acq)
deriving DecidableEq, Repr

/-- Why a step stops. -/
inductive Fault where
  /-- The Accumulator would poll with `cnt ≥ 11`: the spec says those values are never reached there (10_state.md R23,
  40_accumulator.md R101) and gives a poll of no or fewer bytes no meaning. Raised by ACQ.NB, ACQ.B, DISCARD and by the
  step that resumes them, only in states no run from reset reaches. Safe (log 15). -/
  | bufferOverrun
deriving DecidableEq, Repr

/-- Why an instruction is refused. -/
inductive Refusal where
  /-- An instruction without a meaning. Raised by no arm of `exec`: every row has its meaning. Safe. -/
  | notModelled (mnemonic : String)
deriving DecidableEq, Repr

/-- The whole machine. -/
structure State where
  /-- The parameters of the step (R11, R37); no step changes them. -/
  cfg : Cfg
  /-- The frame buffer registers `x[0..10]` (R20). -/
  x : Frame
  /-- The frame position pointer (R23). -/
  cnt : BitVec 4
  /-- The block believes `cnt = 0` coincides with a frame boundary (R25). -/
  synced : Bool
  /-- `open`: a Session exists (R26). -/
  opened : Bool
  /-- A transport failure ended a command since INIT (R27). -/
  failed : Bool
  /-- The board variant of the Session (R28). -/
  board : Board
  /-- `Now()` when the last SYNC started (R29). -/
  t0 : Millis
  /-- `prev_cr`: the scanner's last byte was `CR` (R30). -/
  prevCr : Bool
  /-- `r_valid` (R75, R77). -/
  rValid : Bool
  /-- `r_code` (R78). -/
  rCode : RespCode
  /-- `r_cause` (R79). -/
  rCause : Cause
  /-- The Sample outputs `s_*` (R33). -/
  sample : Sample
  /-- The command in progress. -/
  phase : Phase
  /-- `Q`: bytes that arrived and were not yet read or flushed (R41). -/
  q : List Byte
  /-- The transport is open: `TOpen` answered `ok` and `TClose` was not called since (R47). -/
  link : Bool
  /-- What `Now()` reads (R240). -/
  now : Millis
  /-- The environment's turns still to come. -/
  tape : List Turn
deriving DecidableEq, Repr

/-- The Sample with every field 0 (R32). -/
def Sample.zero : Sample where
  sFunc := 0
  sSent := false
  sNeg := false
  sMant := 0
  sExp := 0
  sOverflow := false
  sDcMode := false
  sAutoMode := false
  sDegree := false
  sBatteryLow := false
  sHold := false
  sBoard := .unknown
  sUnit := .none

/-- The machine right after reset (R39, R250), with `CFG_REF` as the code map (log 2) and an environment that has done
nothing yet: DESIGN CHOICE, unsafe (log 12). -/
def State.reset : State where
  cfg := cfgRef
  x := #v[0, 0, 0, 0, 0, 0, 0, 0, 0, 0, 0]
  cnt := 0
  synced := false
  opened := false
  failed := false
  board := .unknown
  t0 := 0
  prevCr := false
  rValid := false
  rCode := .ok
  rCause := .none
  sample := .zero
  phase := .idle
  q := []
  link := false
  now := 0
  tape := []

end Sys2Proof.Machine
end

