-- ==== Sys2Proof/Machine/Operands.lean ====
section
/-! DEFINITION. The value of a decode row and its spelling in the Sample (43_range_decoder.md R140 to R147, R168 to R171).
-/

namespace Sys2Proof.Machine

/-- The value of a Sample: the overflow sentinel, or the exact scaled decimal `(-1)^neg × mant × 10^exp10` (R145). -/
inductive Val where
  | sent
  | dec (neg : Bool) (mant : BitVec 13) (exp10 : Int)
deriving DecidableEq, Repr

/-- The rational number a value stands for; the sentinel stands for none (R145, R147). -/
def Val.number : Val → Option ℚ
  | .sent => none
  | .dec neg mant exp10 => some ((if neg then -1 else 1) * (mant.toNat : ℚ) * (10 : ℚ) ^ exp10)

/-- `mant`, the reading in counts, in 13 bits (R63, R142). -/
def mantOf (p : Payload) : BitVec 13 := BitVec.ofNat 13 p.counts

/-- `Dec(0, mant, exp10)`. -/
def decimal (p : Payload) (exp10 : Int) : Val := .dec false (mantOf p) exp10

/-- The value of a row of the range table: `Dec(0, mant, pexp(p) + s)` (R140, R141). -/
def rowValue (row : RangeRow) (p : Payload) : Val := decimal p row.exp10

/-- The value that is left undecoded: `Dec(0, 0, 0)` whatever the digits (R158, R166). -/
def zeroValue : Val := .dec false 0 0

/-- ADP0 and ADP1: the sentinel on the unknown board, a decimal on the recognised one (R168, R169). -/
def boardValue (b : Board) (p : Payload) (exp10 : Int) : Val :=
  match b with
  | .unknown => .sent
  | .variantA => decimal p exp10

/-- `S.value <- v`: the port spelling of a value (R33, R147). -/
def Sample.setValue (S : Sample) (v : Val) : Sample :=
  match v with
  | .sent => { S with sSent := true, sNeg := false, sMant := 0x1FFF, sExp := 0b01111 }
  | .dec neg mant exp10 => { S with sSent := false, sNeg := neg, sMant := mant, sExp := BitVec.ofInt 5 exp10 }

/-- The value a Sample stands for (R33); `s_exp` is widened with its sign (R146). -/
def Sample.value (S : Sample) : Val :=
  if S.sSent then .sent else .dec S.sNeg S.sMant S.sExp.toInt

end Sys2Proof.Machine
end

