-- ==== Sys2Proof/Machine/Flags.lean ====
section
/-! DEFINITION. The Flag Decoder, step by step in the source's order, the Units Lookup, and the assembly of the Sample
(44_flag_decoder.md R180 to R190, 45_units.md R195, R196). -/

namespace Sys2Proof.Machine

/-- `Unit(f, degree, board)` (R195): the board matters for no unit the spec can give. -/
def unitOf (f : Option Func) (degree : Bool) (_board : Board) : UnitCode :=
  match f with
  | none => .none
  | some .volt => .v
  | some .curUa => .ua
  | some .curMa => .ma
  | some .curAuto => .a
  | some .curMan => .a
  | some .res => .ohm
  | some .cont => .ohm
  | some .diode => .v
  | some .freq => .hz
  | some .cap => .f
  | some .temp => if degree then .degC else .degF
  | some .adp0 => .adp
  | some .adp1 => .adp
  | some .adp2 => .adp
  | some .adp3 => .adp

/-- OL: the overflow flag is set and the value becomes the sentinel (R181). -/
def Sample.applyOL (S : Sample) (ol : Bool) : Sample :=
  if ol then ({ S with sOverflow := true }).setValue .sent else S

/-- SIGN: a `Dec` is negated, the sentinel is not (R182). -/
def Sample.applySIGN (S : Sample) (sign : Bool) : Sample :=
  if sign && !S.sSent then { S with sNeg := true } else S

/-- BATT (R183). -/
def Sample.applyBATT (S : Sample) (batt : Bool) : Sample :=
  if batt then { S with sBatteryLow := true } else S

/-- JUDGE selects Celsius, for TEMP only (R184). -/
def Sample.applyJUDGE (S : Sample) (f : Func) (judge : Bool) : Sample :=
  if f = .temp ∧ judge = true then { S with sDegree := true } else S

/-- HOLD (R185). -/
def Sample.applyHOLD (S : Sample) (hold : Bool) : Sample :=
  if hold then { S with sHold := true } else S

/-- DC is looked at first (R186). -/
def Sample.applyDC (S : Sample) (dc : Bool) : Sample :=
  if dc then { S with sDcMode := true } else S

/-- AC is looked at last and wins (R186). -/
def Sample.applyAC (S : Sample) (ac : Bool) : Sample :=
  if ac then { S with sDcMode := false } else S

/-- AUTO (R187). -/
def Sample.applyAUTO (S : Sample) (auto : Bool) : Sample :=
  if auto then { S with sAutoMode := true } else S

/-- The bit of a flag nibble at a position of the code map (R66). -/
def flagBit (n : Nibble) (pos : Fin 4) : Bool := n.getLsbD pos.val

/-- `Flags(F, S, board)` (R180). -/
def flags (c : Cfg) (f : Func) (p : Payload) (board : Board) (S : Sample) : Sample :=
  let S := S.applyOL (flagBit p.st c.bitOL)
  let S := S.applySIGN (flagBit p.st c.bitSIGN)
  let S := S.applyBATT (flagBit p.st c.bitBATT)
  let S := S.applyJUDGE f (flagBit p.st c.bitJUDGE)
  let S := S.applyHOLD (flagBit p.o1 c.bitHOLD)
  let S := S.applyDC (flagBit p.o2 c.bitDC)
  let S := S.applyAC (flagBit p.o2 c.bitAC)
  let S := S.applyAUTO (flagBit p.o2 c.bitAUTO)
  let S := { S with sBoard := board }
  { S with sUnit := unitOf (some f) S.sDegree board }

/-- The partial Sample of `Decode(F, board)`: all zero, then the function byte and the value; a row that forces the
sentinel sets the overflow flag too (R140, R147, R172). -/
def decodedSample (c : Cfg) (f : Func) (v : Val) : Sample :=
  ({ Sample.zero with sFunc := structural (c.code f), sOverflow := decide (v = Val.sent) }).setValue v

/-- The finished Sample of a good frame (R190). -/
def frameSample (c : Cfg) (board : Board) (f : Func) (v : Val) (p : Payload) : Sample :=
  flags c f p board (decodedSample c f v)

end Sys2Proof.Machine
end

