-- ==== Sys2Proof/Machine/Ops.lean ====
section
/-! DEFINITION. The shared operations: the environment's turn, the transport primitives (20_memory.md R42 to R47), the
end of a command by a response, the error response as ONE operation (60_exceptions.md R220 to R229) and the way back from
it beside it (R231), reset (70_reset_and_hazards.md R250), the Synchronizer (41_synchronizer.md R110), the Accumulator
(40_accumulator.md R100), the acquisition (46_session_ops.md R206) and the admission of commands (R208). -/

namespace Sys2Proof.Machine

/-- The environment takes its turn: bytes arrive at the back of `Q`, the time base moves (R41, R240). -/
def State.observe (s : State) (t : Turn) (rest : List Turn) : State :=
  { s with q := s.q ++ t.arrive, now := t.now, tape := rest }

/-! ### The transport primitives -/

/-- The answer to a poll as the block sees it (R42). -/
inductive Polled where
  | fail
  | data (bs : List Byte)
deriving DecidableEq, Repr

/-- How many bytes a poll for `n` bytes delivers: at most what was asked for and what is there (R42). -/
def deliverCount (k n : Nat) (q : List Byte) : Nat := min k (min n q.length)

/-- The answer to `MemRead(RX, n)`: `Fail`, or a prefix of `Q` (R42, R44). -/
def pollAnswer (n : Nat) (rx : RxAnswer) (q : List Byte) : Polled :=
  match rx with
  | .fail => .fail
  | .deliver k => .data (q.take (deliverCount k n q))

/-- What a poll leaves of `Q`: the delivered bytes are removed; `Fail` delivers none (R42, R44). -/
def pollRest (n : Nat) (rx : RxAnswer) (q : List Byte) : List Byte :=
  match rx with
  | .fail => q
  | .deliver k => q.drop (deliverCount k n q)

/-- The state after a poll for `n` bytes. -/
def State.polled (s : State) (n : Nat) (rx : RxAnswer) : State := { s with q := pollRest n rx s.q }

/-- `RxFlush()`: `Q <- empty`; it cannot fail (R45). -/
def State.rxFlush (s : State) : State := { s with q := [] }

/-- `TClose()`: releases the transport, answers nothing (R47). -/
def State.tClose (s : State) : State := { s with link := false }

/-- `TOpen()` answered `ok`; the content of `Q` is the environment's choice (R47). -/
def State.tOpened (s : State) (q0 : List Byte) : State := { s with link := true, q := q0 }

/-! ### Reset -/

/-- Every state element at its reset value (R39); what is no state of the block stays: the parameters, the time base
(R251), and the environment (R250, U18; log 11). -/
def State.blockReset (s : State) : State :=
  { State.reset with cfg := s.cfg, q := s.q, link := s.link, now := s.now, tape := s.tape }

/-- The start of INIT: every register of the block goes to its reset value and the answer to `TOpen` is awaited (R200).
The result outputs keep their value until the command ends (R32; log 22). -/
def State.startInit (s : State) (b : Board) : State :=
  { s.blockReset with rCode := s.rCode, rCause := s.rCause, sample := s.sample, phase := .opening b }

/-! ### Responses -/

/-- A command ends: its response and its Sample are written in one step and stay until the next command ends (R32, R77,
R190). -/
def State.respond (s : State) (code : RespCode) (cause : Cause) (S : Sample) : State :=
  { s with rValid := true, rCode := code, rCause := cause, sample := S, phase := .idle }

/-- `return OK` without a Sample (R77). -/
def State.respondOk (s : State) : State := s.respond .ok .none .zero

/-- The error responses with their information (R220, R223). -/
inductive Err where
  | wouldBlock
  | lostSync (c : Cause)
  | syncTimeout
  | transportFailure
  | noSession
  | initFailure
  | badCommand
deriving DecidableEq, Repr

/-- The response kind of an error (R220). -/
def Err.code : Err → RespCode
  | .wouldBlock => .wouldBlock
  | .lostSync _ => .lostSync
  | .syncTimeout => .syncTimeout
  | .transportFailure => .transportFailure
  | .noSession => .noSession
  | .initFailure => .initFailure
  | .badCommand => .badCommand

/-- The cause of an error: none but for LostSync (R77, R223). -/
def Err.cause : Err → Cause
  | .lostSync c => c
  | _ => .none

/-- The state changes of an error response (R221 to R226): a LostSync other than NotSynced clears `synced`, a
TransportFailure sets `failed`, the others change nothing. -/
def Err.effect (e : Err) (s : State) : State :=
  match e with
  | .lostSync c => if c = .notSynced then s else { s with synced := false }
  | .transportFailure => { s with failed := true }
  | .wouldBlock => s
  | .syncTimeout => s
  | .noSession => s
  | .initFailure => s
  | .badCommand => s

/-- `raise E(info)`: TAKING AN ERROR RESPONSE, the state changes of the error and then the response; no Sample (R16,
R220 to R229, R34). -/
def State.raise (s : State) (e : Err) : State := (e.effect s).respond e.code e.cause .zero

/-- The way back: the terminator was found, the session is synchronised and the buffer is empty (R114, R231). -/
def State.resynced (s : State) : State := { s with synced := true, cnt := 0 }.respondOk

/-! ### The Synchronizer -/

/-- `(Now() - t0) mod 2^32 >= DEADLINE_MS(board)` (R115, R241). -/
def State.deadlinePassed (s : State) : Bool := decide (s.cfg.deadline s.board ≤ (s.now - s.t0).toNat)

/-- The scan loop of `Synchronize` (R110, R113 to R116), one turn of the environment for each iteration: the deadline
first, then a poll for one byte. It waits where the turns end, and where the next turn asserts `rst` (R250). -/
def scan : List Turn → State → State
  | [], s => s
  | t :: rest, s =>
    if t.rst then s
    else
      let s := s.observe t rest
      if s.deadlinePassed then s.raise .syncTimeout
      else
        match pollAnswer 1 t.rx s.q with
        | .fail => (s.polled 1 t.rx).raise .transportFailure
        | .data [] => scan rest (s.polled 1 t.rx)
        | .data (b :: _) =>
          if s.prevCr ∧ b = LF then (s.polled 1 t.rx).resynced
          else scan rest { s.polled 1 t.rx with prevCr := decide (b = CR) }

/-- The start of `Synchronize`: discard, flush, latch `t0` (R111, R112, R115). -/
def State.startSync (s : State) : State :=
  { ({ s with synced := false, cnt := 0, prevCr := false }).rxFlush with t0 := s.now, phase := .scanning }

/-- `Synchronize()` (R110). -/
def synchronize (s : State) : State := scan s.tape s.startSync

/-! ### The Accumulator -/

/-- Write bytes to `x[i]`, `x[i+1]`, ... (R102). -/
def writeBytes (x : Frame) (i : Nat) : List Byte → Frame
  | [] => x
  | b :: bs => writeBytes (x.setIfInBounds i b) (i + 1) bs

/-- Append the bytes of a poll at `cnt` (R102). -/
def State.append (s : State) (bs : List Byte) : State :=
  { s with x := writeBytes s.x s.cnt.toNat bs, cnt := s.cnt + BitVec.ofNat 4 bs.length }

/-- The number of bytes the Accumulator asks for: those still missing (R101). -/
def State.missing (s : State) : Nat := 11 - s.cnt.toNat

/-- A non-blocking poll of DISCARD's drain came back empty: a partial frame forces a resynchronisation, else `OK`
(R204). -/
def endDrain (s : State) : State :=
  if s.cnt ≠ 0 then synchronize s else s.respondOk

/-- The loop of `Accumulate` (R100 to R106), one turn of the environment for each poll. A complete frame is captured and
`cnt` goes to 0 before it is looked at (R103). It waits where the turns end, and where the next turn asserts `rst`. -/
def gather (a : Acq) : List Turn → State → State
  | [], s => s
  | t :: rest, s =>
    if t.rst then s
    else
      let s := s.observe t rest
      match pollAnswer s.missing t.rx s.q with
      | .fail => (s.polled s.missing t.rx).raise .transportFailure
      | .data [] =>
        match a with
        | .nonblocking => (s.polled s.missing t.rx).raise .wouldBlock
        | .blocking => gather a rest (s.polled s.missing t.rx)
        | .drain => endDrain (s.polled s.missing t.rx)
      | .data (b :: bs) =>
        let s := (s.polled s.missing t.rx).append (b :: bs)
        if s.cnt = 11 then { s with cnt := 0, phase := .captured a } else gather a rest s

/-- `Accumulate(blocking)` (R100), for the command `a`. A poll is made with `cnt ≤ 10` only (R101); the other values of
`cnt` are never reached there, and fault (log 15). -/
def accumulate (a : Acq) (s : State) : Host.Outcome State Fault Refusal :=
  if s.cnt.toNat ≤ 10 then .next (gather a s.tape { s with phase := .gathering a }) else .fault .bufferOverrun

/-! ### The acquisition -/

/-- The end of `Acquire` on a good frame: the Sample is returned by ACQ.NB and ACQ.B and dropped by DISCARD, whose drain
loop goes on (R204, R206). -/
def completeFrame (f : Func) (v : Val) (p : Payload) (s : State) : Host.Outcome State Fault Refusal :=
  match s.phase with
  | .captured .drain => .next { s with phase := .gathering .drain }
  | _ => .next (s.respond .ok .none (frameSample s.cfg s.board f v p))

/-! ### Admission -/

/-- NoSession in CLOSED mode, TransportFailure in FAILED mode, else the command runs (R208, R228). -/
def whenLive (s : State) (run : State → Host.Outcome State Fault Refusal) : Host.Outcome State Fault Refusal :=
  if s.opened = false then .next (s.raise .noSession)
  else if s.failed then .next (s.raise .transportFailure)
  else run s

/-- `Acquire` up to the frame: the gate on `synced`, then the Accumulator (R206). -/
def acquire (a : Acq) (s : State) : Host.Outcome State Fault Refusal :=
  if s.synced = false then .next (s.raise (.lostSync .notSynced)) else accumulate a s

/-- INIT waits for the answer to `TOpen` (R200). -/
def awaitOpen (b : Board) (s : State) : State :=
  match s.tape with
  | [] => s
  | t :: rest =>
    if t.rst then s
    else
      match t.topen with
      | .fail => (s.observe t rest).raise .initFailure
      | .ok q0 => { (s.observe t rest).tOpened q0 with board := b, opened := true }.respondOk

end Sys2Proof.Machine
end

