-- ==== Sys2Proof/Machine/Auxiliary.lean ====
section
/-! DEFINITION. The meanings of the decode rows of ADP0 to ADP3 (43_range_decoder.md R168 to R171). A row's meaning is the value the row gives, the flags and
the unit (44_flag_decoder.md R180, 45_units.md R195), and the end of the acquisition (46_session_ops.md R206). -/

namespace Sys2Proof.Machine

/-- `ADP0.*`: the sentinel on the unknown board, `XXXX` on the recognised one (R168). -/
def execAdp0 (_rng : Nibble) (p : Payload) (s : State) : Host.Outcome State Fault Refusal :=
  completeFrame .adp0 (boardValue s.board p 0) p s

/-- `ADP1.*`: the sentinel on the unknown board, `XXX.X` on the recognised one (R169). -/
def execAdp1 (_rng : Nibble) (p : Payload) (s : State) : Host.Outcome State Fault Refusal :=
  completeFrame .adp1 (boardValue s.board p (-1)) p s

/-- `ADP2.*`: the sentinel on every board (R170). -/
def execAdp2 (_rng : Nibble) (p : Payload) (s : State) : Host.Outcome State Fault Refusal :=
  completeFrame .adp2 .sent p s

/-- `ADP3.*`: the sentinel on every board (R171). -/
def execAdp3 (_rng : Nibble) (p : Payload) (s : State) : Host.Outcome State Fault Refusal :=
  completeFrame .adp3 .sent p s

end Sys2Proof.Machine
end

