-- ==== Sys2Proof/Machine/Capacitance.lean ====
section
/-! DEFINITION. The meanings of the decode rows of CAP (43_range_decoder.md R163). A row's meaning is the value the row gives, the flags and
the unit (44_flag_decoder.md R180, 45_units.md R195), and the end of the acquisition (46_session_ops.md R206). -/

namespace Sys2Proof.Machine

/-- `CAP.0`: range 4.000 nF under `CFG_REF` (R163). -/
def execCap0 (p : Payload) (s : State) : Host.Outcome State Fault Refusal :=
  completeFrame .cap (rowValue s.cfg.cap[0] p) p s

/-- `CAP.1`: range 40.00 nF under `CFG_REF` (R163). -/
def execCap1 (p : Payload) (s : State) : Host.Outcome State Fault Refusal :=
  completeFrame .cap (rowValue s.cfg.cap[1] p) p s

/-- `CAP.2`: range 400.0 nF under `CFG_REF` (R163). -/
def execCap2 (p : Payload) (s : State) : Host.Outcome State Fault Refusal :=
  completeFrame .cap (rowValue s.cfg.cap[2] p) p s

/-- `CAP.3`: range 4.000 µF under `CFG_REF` (R163). -/
def execCap3 (p : Payload) (s : State) : Host.Outcome State Fault Refusal :=
  completeFrame .cap (rowValue s.cfg.cap[3] p) p s

/-- `CAP.4`: range 40.00 µF under `CFG_REF` (R163). -/
def execCap4 (p : Payload) (s : State) : Host.Outcome State Fault Refusal :=
  completeFrame .cap (rowValue s.cfg.cap[4] p) p s

/-- `CAP.5`: range 400.0 µF under `CFG_REF` (R163). -/
def execCap5 (p : Payload) (s : State) : Host.Outcome State Fault Refusal :=
  completeFrame .cap (rowValue s.cfg.cap[5] p) p s

/-- `CAP.6`: range 4.000 mF under `CFG_REF` (R163). -/
def execCap6 (p : Payload) (s : State) : Host.Outcome State Fault Refusal :=
  completeFrame .cap (rowValue s.cfg.cap[6] p) p s

end Sys2Proof.Machine
end

