-- ==== Sys2Proof/Machine/Current.lean ====
section
/-! DEFINITION. The meanings of the decode rows of CUR_UA, CUR_MA, CUR_AUTO and CUR_MAN (43_range_decoder.md R151 to R153, R158). A row's meaning is the value the row gives, the flags and
the unit (44_flag_decoder.md R180, 45_units.md R195), and the end of the acquisition (46_session_ops.md R206). -/

namespace Sys2Proof.Machine

/-- `CUR_UA.0`: range 400.0 µA (R151). -/
def execCurUa0 (p : Payload) (s : State) : Host.Outcome State Fault Refusal :=
  completeFrame .curUa (rowValue s.cfg.curUa[0] p) p s

/-- `CUR_UA.1`: range 4000 µA (R151). -/
def execCurUa1 (p : Payload) (s : State) : Host.Outcome State Fault Refusal :=
  completeFrame .curUa (rowValue s.cfg.curUa[1] p) p s

/-- `CUR_MA.0`: range 40.00 mA (R152). -/
def execCurMa0 (p : Payload) (s : State) : Host.Outcome State Fault Refusal :=
  completeFrame .curMa (rowValue s.cfg.curMa[0] p) p s

/-- `CUR_MA.1`: range 400.0 mA (R152). -/
def execCurMa1 (p : Payload) (s : State) : Host.Outcome State Fault Refusal :=
  completeFrame .curMa (rowValue s.cfg.curMa[1] p) p s

/-- `CUR_AUTO.0`: range 4.000 A (R153). -/
def execCurAuto0 (p : Payload) (s : State) : Host.Outcome State Fault Refusal :=
  completeFrame .curAuto (rowValue s.cfg.curAuto[0] p) p s

/-- `CUR_AUTO.1`: range 40.00 A (R153). -/
def execCurAuto1 (p : Payload) (s : State) : Host.Outcome State Fault Refusal :=
  completeFrame .curAuto (rowValue s.cfg.curAuto[1] p) p s

/-- `CUR_MAN.*`: the value is left undecoded, zero whatever the digits and the range (R158). -/
def execCurMan (_rng : Nibble) (p : Payload) (s : State) : Host.Outcome State Fault Refusal :=
  completeFrame .curMan zeroValue p s

end Sys2Proof.Machine
end

