-- ==== Sys2Proof/Machine/Frequency.lean ====
section
/-! DEFINITION. The meanings of the decode rows of FREQ (43_range_decoder.md R162). A row's meaning is the value the row gives, the flags and
the unit (44_flag_decoder.md R180, 45_units.md R195), and the end of the acquisition (46_session_ops.md R206). -/

namespace Sys2Proof.Machine

/-- `FREQ.0`: range 4.000 kHz under `CFG_REF` (R162). -/
def execFreq0 (p : Payload) (s : State) : Host.Outcome State Fault Refusal :=
  completeFrame .freq (rowValue s.cfg.freq[0] p) p s

/-- `FREQ.1`: range 40.00 kHz under `CFG_REF` (R162). -/
def execFreq1 (p : Payload) (s : State) : Host.Outcome State Fault Refusal :=
  completeFrame .freq (rowValue s.cfg.freq[1] p) p s

/-- `FREQ.2`: range 400.0 kHz under `CFG_REF` (R162). -/
def execFreq2 (p : Payload) (s : State) : Host.Outcome State Fault Refusal :=
  completeFrame .freq (rowValue s.cfg.freq[2] p) p s

/-- `FREQ.3`: range 4.000 MHz under `CFG_REF` (R162). -/
def execFreq3 (p : Payload) (s : State) : Host.Outcome State Fault Refusal :=
  completeFrame .freq (rowValue s.cfg.freq[3] p) p s

/-- `FREQ.4`: range 40.00 MHz under `CFG_REF` (R162). -/
def execFreq4 (p : Payload) (s : State) : Host.Outcome State Fault Refusal :=
  completeFrame .freq (rowValue s.cfg.freq[4] p) p s

end Sys2Proof.Machine
end

