-- ==== Sys2Proof/Machine/Resistance.lean ====
section
/-! DEFINITION. The meanings of the decode rows of RES, CONT and DIODE (43_range_decoder.md R159 to R161). A row's meaning is the value the row gives, the flags and
the unit (44_flag_decoder.md R180, 45_units.md R195), and the end of the acquisition (46_session_ops.md R206). -/

namespace Sys2Proof.Machine

/-- `RES.0`: range 400.0 Ω under `CFG_REF` (R159). -/
def execRes0 (p : Payload) (s : State) : Host.Outcome State Fault Refusal :=
  completeFrame .res (rowValue s.cfg.res[0] p) p s

/-- `RES.1`: range 4.000 kΩ under `CFG_REF` (R159). -/
def execRes1 (p : Payload) (s : State) : Host.Outcome State Fault Refusal :=
  completeFrame .res (rowValue s.cfg.res[1] p) p s

/-- `RES.2`: range 40.00 kΩ under `CFG_REF` (R159). -/
def execRes2 (p : Payload) (s : State) : Host.Outcome State Fault Refusal :=
  completeFrame .res (rowValue s.cfg.res[2] p) p s

/-- `RES.3`: range 400.0 kΩ under `CFG_REF` (R159). -/
def execRes3 (p : Payload) (s : State) : Host.Outcome State Fault Refusal :=
  completeFrame .res (rowValue s.cfg.res[3] p) p s

/-- `RES.4`: range 4.000 MΩ under `CFG_REF` (R159). -/
def execRes4 (p : Payload) (s : State) : Host.Outcome State Fault Refusal :=
  completeFrame .res (rowValue s.cfg.res[4] p) p s

/-- `RES.5`: range 40.00 MΩ under `CFG_REF` (R159). -/
def execRes5 (p : Payload) (s : State) : Host.Outcome State Fault Refusal :=
  completeFrame .res (rowValue s.cfg.res[5] p) p s

/-- `CONT.*`: placement `XXXX`, in ohms (R160). -/
def execCont (_rng : Nibble) (p : Payload) (s : State) : Host.Outcome State Fault Refusal :=
  completeFrame .cont (decimal p 0) p s

/-- `DIODE.*`: placement `X.XXX`, in volts (R161). -/
def execDiode (_rng : Nibble) (p : Payload) (s : State) : Host.Outcome State Fault Refusal :=
  completeFrame .diode (decimal p (-3)) p s

end Sys2Proof.Machine
end

