-- ==== Sys2Proof/Machine/Session.lean ====
section
/-! DEFINITION. The meanings of the host commands (46_session_ops.md R200 to R209). A command runs to its response as far
as the environment's turns go; where they end, it stays in progress (70_reset_and_hazards.md R262, R273; log 6). -/

namespace Sys2Proof.Machine

/-- `INIT board`: an open transport is closed first, every register goes to its reset value, `TOpen` is called and
its answer awaited (R200). Admitted in every mode (R208). -/
def execInit (b : Board) (s : State) : Host.Outcome State Fault Refusal :=
  let s := if s.opened then s.tClose else s
  .next (awaitOpen b (s.startInit b))

/-- `SYNC` (R201). -/
def execSync (s : State) : Host.Outcome State Fault Refusal :=
  whenLive s fun s => .next (synchronize s)

/-- `ACQ.NB` (R202). -/
def execAcqNb (s : State) : Host.Outcome State Fault Refusal :=
  whenLive s (acquire .nonblocking)

/-- `ACQ.B` (R203). -/
def execAcqB (s : State) : Host.Outcome State Fault Refusal :=
  whenLive s (acquire .blocking)

/-- `DISCARD`: the drain loop's first acquisition (R204); a captured frame is dropped and the loop resumed by the step. -/
def execDiscard (s : State) : Host.Outcome State Fault Refusal :=
  whenLive s (acquire .drain)

/-- `TEARDOWN`: releases the transport and resets the block; only CLOSED mode refuses it (R205, R208). -/
def execTeardown (s : State) : Host.Outcome State Fault Refusal :=
  if s.opened = false then .next (s.raise .noSession) else .next s.tClose.blockReset.respondOk

/-- Reserved `op` 0 (R209). -/
def execReserved0 (s : State) : Host.Outcome State Fault Refusal := .next (s.raise .badCommand)

/-- Reserved `op` 7 (R209). -/
def execReserved7 (s : State) : Host.Outcome State Fault Refusal := .next (s.raise .badCommand)

end Sys2Proof.Machine
end

