-- ==== Sys2Proof/Machine/Temperature.lean ====
section
/-! DEFINITION. The meanings of the decode rows of TEMP (43_range_decoder.md R166). A row's meaning is the value the row gives, the flags and
the unit (44_flag_decoder.md R180, 45_units.md R195), and the end of the acquisition (46_session_ops.md R206). -/

namespace Sys2Proof.Machine

/-- `TEMP.*`: the value is left undecoded, zero whatever the digits and the range; the unit follows JUDGE (R166, R184). -/
def execTemp (_rng : Nibble) (p : Payload) (s : State) : Host.Outcome State Fault Refusal :=
  completeFrame .temp zeroValue p s

end Sys2Proof.Machine
end

