-- ==== Sys2Proof/Machine/Voltage.lean ====
section
/-! DEFINITION. The meanings of the decode rows of VOLT (43_range_decoder.md R150). A row's meaning is the value the row gives, the flags and
the unit (44_flag_decoder.md R180, 45_units.md R195), and the end of the acquisition (46_session_ops.md R206). -/

namespace Sys2Proof.Machine

/-- `VOLT.0`: range 4.000 V (R150). -/
def execVolt0 (p : Payload) (s : State) : Host.Outcome State Fault Refusal :=
  completeFrame .volt (rowValue s.cfg.volt[0] p) p s

/-- `VOLT.1`: range 40.00 V (R150). -/
def execVolt1 (p : Payload) (s : State) : Host.Outcome State Fault Refusal :=
  completeFrame .volt (rowValue s.cfg.volt[1] p) p s

/-- `VOLT.2`: range 400.0 V (R150). -/
def execVolt2 (p : Payload) (s : State) : Host.Outcome State Fault Refusal :=
  completeFrame .volt (rowValue s.cfg.volt[2] p) p s

/-- `VOLT.3`: range 4000 V (R150). -/
def execVolt3 (p : Payload) (s : State) : Host.Outcome State Fault Refusal :=
  completeFrame .volt (rowValue s.cfg.volt[3] p) p s

/-- `VOLT.4`: range 400.0 mV, in volts (R150). -/
def execVolt4 (p : Payload) (s : State) : Host.Outcome State Fault Refusal :=
  completeFrame .volt (rowValue s.cfg.volt[4] p) p s

end Sys2Proof.Machine
end

