-- ==== Sys2Proof/Machine/Dispatch.lean ====
section
/-! DEFINITION. The dispatch of an instruction to its meaning, one arm per row of opcode_table.json. -/

namespace Sys2Proof.Machine

def exec (i : Instr) (s : State) : Host.Outcome State Fault Refusal :=
  match i with
  | .volt0 p => Sys2Proof.Machine.execVolt0 p s
  | .volt1 p => Sys2Proof.Machine.execVolt1 p s
  | .volt2 p => Sys2Proof.Machine.execVolt2 p s
  | .volt3 p => Sys2Proof.Machine.execVolt3 p s
  | .volt4 p => Sys2Proof.Machine.execVolt4 p s
  | .curUa0 p => Sys2Proof.Machine.execCurUa0 p s
  | .curUa1 p => Sys2Proof.Machine.execCurUa1 p s
  | .curMa0 p => Sys2Proof.Machine.execCurMa0 p s
  | .curMa1 p => Sys2Proof.Machine.execCurMa1 p s
  | .curAuto0 p => Sys2Proof.Machine.execCurAuto0 p s
  | .curAuto1 p => Sys2Proof.Machine.execCurAuto1 p s
  | .curMan rng p => Sys2Proof.Machine.execCurMan rng p s
  | .res0 p => Sys2Proof.Machine.execRes0 p s
  | .res1 p => Sys2Proof.Machine.execRes1 p s
  | .res2 p => Sys2Proof.Machine.execRes2 p s
  | .res3 p => Sys2Proof.Machine.execRes3 p s
  | .res4 p => Sys2Proof.Machine.execRes4 p s
  | .res5 p => Sys2Proof.Machine.execRes5 p s
  | .cont rng p => Sys2Proof.Machine.execCont rng p s
  | .diode rng p => Sys2Proof.Machine.execDiode rng p s
  | .freq0 p => Sys2Proof.Machine.execFreq0 p s
  | .freq1 p => Sys2Proof.Machine.execFreq1 p s
  | .freq2 p => Sys2Proof.Machine.execFreq2 p s
  | .freq3 p => Sys2Proof.Machine.execFreq3 p s
  | .freq4 p => Sys2Proof.Machine.execFreq4 p s
  | .cap0 p => Sys2Proof.Machine.execCap0 p s
  | .cap1 p => Sys2Proof.Machine.execCap1 p s
  | .cap2 p => Sys2Proof.Machine.execCap2 p s
  | .cap3 p => Sys2Proof.Machine.execCap3 p s
  | .cap4 p => Sys2Proof.Machine.execCap4 p s
  | .cap5 p => Sys2Proof.Machine.execCap5 p s
  | .cap6 p => Sys2Proof.Machine.execCap6 p s
  | .temp rng p => Sys2Proof.Machine.execTemp rng p s
  | .adp0 rng p => Sys2Proof.Machine.execAdp0 rng p s
  | .adp1 rng p => Sys2Proof.Machine.execAdp1 rng p s
  | .adp2 rng p => Sys2Proof.Machine.execAdp2 rng p s
  | .adp3 rng p => Sys2Proof.Machine.execAdp3 rng p s
  | .init b => Sys2Proof.Machine.execInit b s
  | .sync => Sys2Proof.Machine.execSync s
  | .acqNb => Sys2Proof.Machine.execAcqNb s
  | .acqB => Sys2Proof.Machine.execAcqB s
  | .discard => Sys2Proof.Machine.execDiscard s
  | .teardown => Sys2Proof.Machine.execTeardown s
  | .reserved0 => Sys2Proof.Machine.execReserved0 s
  | .reserved7 => Sys2Proof.Machine.execReserved7 s

end Sys2Proof.Machine
end

