-- ==== Sys2Proof/Machine/Ports.lean ====
section
/-! DEFINITION. The bit patterns at the interface: response and cause codes, unit codes and labels, the Sample word
(30_encoding.md R75 to R80, 45_units.md R195, R196), and the operating mode (10_state.md R35). -/

namespace Sys2Proof.Machine

/-- `r_code[2:0]` (R78). -/
def RespCode.bits : RespCode → BitVec 3
  | .ok => 0
  | .wouldBlock => 1
  | .lostSync => 2
  | .syncTimeout => 3
  | .transportFailure => 4
  | .noSession => 5
  | .initFailure => 6
  | .badCommand => 7

/-- `r_cause[2:0]` (R79); 7 is never produced. -/
def causeBits : Cause → BitVec 3
  | .none => 0
  | .invalidDigits => 1
  | .invalidFunction => 2
  | .invalidRange => 3
  | .invalidStatusOption => 4
  | .invalidTerminator => 5
  | .notSynced => 6

/-- `s_unit[3:0]` (R195); 11 to 15 are never produced. -/
def UnitCode.bits : UnitCode → BitVec 4
  | .none => 0
  | .v => 1
  | .ua => 2
  | .ma => 3
  | .a => 4
  | .ohm => 5
  | .hz => 6
  | .f => 7
  | .degC => 8
  | .degF => 9
  | .adp => 10

/-- `LABEL : Unit -> String`: two labels are the source's, the others are free (R196, log 17). -/
def UnitCode.label : UnitCode → String
  | .ohm => "Ohms"
  | .v => "V"
  | u => Config.freeLabel u.bits

/-- 0 = UNKNOWN, 1 = VARIANT_A (R28). -/
def boardBit : Board → Bool
  | .unknown => false
  | .variantA => true

/-- The 39-bit Sample of R80. -/
def Sample.word (S : Sample) : BitVec 39 :=
  S.sFunc ++ BitVec.ofBool S.sSent ++ BitVec.ofBool S.sNeg ++ S.sMant ++ S.sExp ++ BitVec.ofBool S.sOverflow ++
    BitVec.ofBool S.sDcMode ++ BitVec.ofBool S.sAutoMode ++ BitVec.ofBool S.sDegree ++ BitVec.ofBool S.sBatteryLow ++
    BitVec.ofBool S.sHold ++ BitVec.ofBool (boardBit S.sBoard) ++ S.sUnit.bits

/-- The operating modes (R35, R235). -/
inductive Mode where
  | closed
  | unsynced
  | synced
  | failed
deriving DecidableEq, Repr

/-- The mode is a function of `open`, `failed`, `synced` (R35). -/
def State.mode (s : State) : Mode :=
  if s.opened = false then .closed
  else if s.failed then .failed
  else if s.synced then .synced
  else .unsynced

/-- `cmd_ready`: no command runs (R75, R207). -/
def State.cmdReady (s : State) : Bool := decide (s.phase = .idle)

end Sys2Proof.Machine
end

