-- ==== Sys2Proof/Machine/Fetch.lean ====
section
/-! DEFINITION. Where the next instruction comes from (00_scope.md R18): the host's command word when no command runs
(46_session_ops.md R207), the captured frame when one is complete (20_memory.md R59); and the operations the step is made
of besides `exec`: the reset input, taking a command, resuming a command in progress, and placing an instruction. -/

namespace Sys2Proof.Machine

/-- The reset input is asserted in the next turn (R250). -/
def State.rstPending (s : State) : Bool :=
  match s.tape with
  | [] => false
  | t :: _ => t.rst

/-- The turn in which `rst` is asserted: whatever runs is abandoned without a response, every state element has its reset
value (R250). -/
def State.applyRst (s : State) : State :=
  match s.tape with
  | [] => s
  | t :: rest => (s.observe t rest).blockReset

/-- What an idle block finds in the next turn of the environment. -/
inductive Offer where
  /-- No turn is left: nothing happens outside (log 6). -/
  | silent
  /-- Time passes and no command is offered. -/
  | pause (s : State)
  /-- A command word is offered, and taken: `r_valid` falls (R75, R207). -/
  | command (w : Nibble) (s : State)
deriving DecidableEq, Repr

/-- The idle block takes the next turn (R75, R207). -/
def State.nextOffer (s : State) : Offer :=
  match s.tape with
  | [] => .silent
  | t :: rest =>
    match t.cmd with
    | none => .pause (s.observe t rest)
    | some w => .command w { s.observe t rest with rValid := false }

/-- A command in progress goes on: INIT waits for `TOpen`, the Synchronizer scans, the Accumulator polls. -/
def resume (s : State) : Host.Outcome State Fault Refusal :=
  match s.phase with
  | .opening b => .next (awaitOpen b s)
  | .scanning => .next (scan s.tape s)
  | .gathering a => accumulate a s
  | .idle => .next s
  | .captured _ => .next s

/-- A turn in which nothing happens and a command may be offered. -/
def quietTurn (s : State) (cmd : Option Nibble) : Turn :=
  { rst := false, cmd := cmd, arrive := [], now := s.now, rx := .deliver 0, topen := .fail }

/-- The host offers command word `w` to the idle block in the next turn. -/
def State.placeCommand (s : State) (w : Nibble) : State :=
  { s with phase := .idle, tape := quietTurn s (some w) :: s.tape }

/-- Frame `F` has just been captured by an ACQ.NB of a synchronised session, and no reset is at hand. -/
def State.placeFrame (s : State) (F : Frame) : State :=
  { s with x := F, cnt := 0, opened := true, link := true, failed := false, synced := true,
           phase := .captured .nonblocking,
           tape := quietTurn s none :: s.tape }

/-- The instruction with the table's bits `w` stands where the step fetches next (R61, R76; logs 3, 4, 6). -/
def State.placeTableWord (s : State) (nbits w : Nat) : State :=
  if nbits = 88 then s.placeFrame (frameOfWord w) else s.placeCommand (BitVec.ofNat 4 w)

end Sys2Proof.Machine
end

