-- ==== Sys2Proof/Machine/Step.lean ====
section
/-! DEFINITION. One step of the machine. The reset input goes before everything (70_reset_and_hazards.md R250). An idle
block takes the next offer and runs the command (46_session_ops.md R207); a captured frame is validated, decoded and run
as its decode row (00_scope.md R18, 46_session_ops.md R206); any other command in progress is resumed. -/

namespace Sys2Proof.Machine

/-- One step. -/
def step (s : State) : Host.Outcome State Fault Refusal :=
  if s.rstPending then .next s.applyRst
  else
    match s.phase with
    | .idle =>
      match s.nextOffer with
      | .silent => .next s
      | .pause s' => .next s'
      | .command w s' => exec (decodeCommand w) s'
    | .captured _ =>
      match decodeFrame s.cfg s.x with
      | .error c => .next (s.raise (.lostSync c))
      | .ok i => exec i s
    | .opening _ => resume s
    | .scanning => resume s
    | .gathering _ => resume s

/-- `s` with the instruction of the table's bits `w` where the next step fetches (log 6). -/
def State.withFetchWord (s : State) (nbits w : Nat) : State := s.placeTableWord nbits w

end Sys2Proof.Machine
end

