-- ==== Sys2Proof/Safety.lean ====
section
/-! DEFINITION. The terms of the claims: the invariant of a run (10_state.md R36), the conditions of a good frame
(30_encoding.md R81), the Sample in closed form (44_flag_decoder.md R188), the bytes of a trace, and plain traces. -/

namespace Sys2Proof.Machine

/-- A step that goes on: neither a fault nor a refusal. -/
def Goes (o : Host.Outcome State Fault Refusal) : Prop := ∃ t, o = .next t

/-! ### The invariant -/

/-- What the command in progress implies (R206, R208, R235): a frame is assembled or captured only in SYNCED mode, the scan
runs in UNSYNCED mode, INIT waits in CLOSED mode. -/
def State.phaseOk (s : State) : Bool :=
  match s.phase with
  | .idle => true
  | .opening _ => decide (s.mode = .closed)
  | .scanning => decide (s.mode = .unsynced)
  | .gathering _ => decide (s.mode = .synced)
  | .captured _ => decide (s.mode = .synced) && decide (s.cnt = 0)

/-- The value outputs of a Sample are a decimal of at most 4999 counts without the overflow flag, or the sentinel's
spelling with it (R33, R147, R173). -/
def Sample.valueOk (S : Sample) : Bool :=
  if S.sSent then S.sOverflow && !S.sNeg && decide (S.sMant = 0x1FFF) && decide (S.sExp = 0b01111)
  else !S.sOverflow && decide (S.sMant.toNat ≤ 4999)

/-- A closed session has every register of the block at its reset value (R36, R39, R235). -/
def State.closedOk (s : State) : Bool :=
  s.opened ||
  (!s.synced && !s.failed && decide (s.cnt = 0) && decide (s.board = .unknown) && decide (s.x = State.reset.x) &&
    decide (s.t0 = 0) && !s.prevCr)

/-- The invariant that every step keeps (R23, R34, R36, R75, R77, R147, R208, R235). -/
abbrev Inv (s : State) : Prop :=
  s.cnt.toNat ≤ 10 ∧
  s.closedOk = true ∧
  (s.opened = true → s.link = true) ∧
  (s.mode = .unsynced → s.cnt = 0) ∧
  s.phaseOk = true ∧
  (s.phase ≠ .idle → s.rValid = false) ∧
  (s.rCode ≠ .ok → s.sample = Sample.zero) ∧
  (s.rCause = .none ↔ s.rCode ≠ .lostSync) ∧
  s.sample.valueOk = true ∧
  (s.rValid = true → s.sample ≠ Sample.zero → s.synced = true) ∧
  (s.rValid = true → s.rCode = .lostSync → s.synced = false ∧ s.cnt = 0)

/-! ### Good frames (R81) -/

/-- Checks 1 and 2 pass: every digit byte has upper nibble 0x3 and a digit within its bound (R121, R122). -/
def digitsGood (F : Frame) : Prop :=
  (hiNib F[1] = 3 ∧ hiNib F[2] = 3 ∧ hiNib F[3] = 3 ∧ hiNib F[4] = 3) ∧
  (loNib F[1]).toNat ≤ 4 ∧ (loNib F[2]).toNat ≤ 9 ∧ (loNib F[3]).toNat ≤ 9 ∧ (loNib F[4]).toNat ≤ 9

/-- Check 3 passes: the function byte is `0x30 | CFG.func(f)` for a function `f` (R68, R123). -/
def functionGood (c : Cfg) (F : Frame) : Prop := ∃ f, F[5] = structural (c.code f)

/-- Check 4 passes (R124). -/
def optionsGood (F : Frame) : Prop := hiNib F[6] = 3 ∧ hiNib F[7] = 3 ∧ hiNib F[8] = 3

/-- Check 5 passes (R125). -/
def terminatorGood (F : Frame) : Prop := F[9] = 0x0D ∧ F[10] = 0x0A

/-- The range step passes: upper nibble 0x3, and a row with that code where the function has a table (R143, R144). -/
def rangeGood (c : Cfg) (F : Frame) : Prop :=
  hiNib F[0] = 3 ∧
  ∀ f, F[5] = structural (c.code f) → f.hasRanges = true → ∃ row ∈ c.ranges f, row.code = loNib F[0]

/-! ### The Sample in closed form (R188) -/

/-- The final value of a frame with decoded value `v`: the sentinel when it is forced or OL is set, else the decimal with
the sign of SIGN (R181, R182, R188). -/
def closedValue (c : Cfg) (v : Val) (p : Payload) : Val :=
  match v with
  | .sent => .sent
  | .dec _ m e => if flagBit p.st c.bitOL then .sent else .dec (flagBit p.st c.bitSIGN) m e

/-- The finished Sample of a good frame with function `f` and decoded value `v`, field by field (R188, R190). -/
def closedSample (c : Cfg) (board : Board) (f : Func) (v : Val) (p : Payload) : Sample :=
  ({ sFunc := structural (c.code f)
     sSent := false
     sNeg := false
     sMant := 0
     sExp := 0
     sOverflow := decide (closedValue c v p = .sent)
     sDcMode := flagBit p.o2 c.bitDC && !flagBit p.o2 c.bitAC
     sAutoMode := flagBit p.o2 c.bitAUTO
     sDegree := flagBit p.st c.bitJUDGE && decide (f = .temp)
     sBatteryLow := flagBit p.st c.bitBATT
     sHold := flagBit p.o1 c.bitHOLD
     sBoard := board
     sUnit := unitOf (some f) (flagBit p.st c.bitJUDGE && decide (f = .temp)) board } : Sample).setValue
    (closedValue c v p)

/-- `s` after a command ended with `OK` and Sample `S`: the outputs are written and no command runs; nothing else
changes (R32, R190). -/
def State.withAnswer (s : State) (S : Sample) : State :=
  { s with rValid := true, rCode := .ok, rCause := .none, sample := S, phase := .idle }

/-- `s` after a command ended with an error response that changes no register of the block: all Sample outputs are 0
(R34, R229). -/
def State.withError (s : State) (code : RespCode) (cause : Cause) : State :=
  { s with rValid := true, rCode := code, rCause := cause, sample := .zero, phase := .idle }

/-- `t` is `s` but for the outputs, the command in progress, and what the environment did since: its turns, `Q`, and the
time base. Every register of the block and every parameter is unchanged. -/
def SameRegisters (s t : State) : Prop :=
  t.cfg = s.cfg ∧ t.x = s.x ∧ t.cnt = s.cnt ∧ t.synced = s.synced ∧ t.opened = s.opened ∧ t.failed = s.failed ∧
  t.board = s.board ∧ t.t0 = s.t0 ∧ t.prevCr = s.prevCr ∧ t.link = s.link

/-- The step takes command `i`: no reset comes, no command runs, and the next turn offers a word of `i` (R75, R207). -/
def State.takes (s : State) (i : Instr) : Prop :=
  s.rstPending = false ∧ s.phase = .idle ∧
  ∃ u rest w, s.tape = u :: rest ∧ u.cmd = some w ∧ decodeCommand w = i

/-- A command runs, or is taken by this step (R75, R207). -/
def State.active (s : State) : Prop := s.phase ≠ .idle ∨ ∃ i, s.takes i

/-- A command in progress that waits for the environment: for the answer to `TOpen`, or for bytes (R273). -/
def Phase.waits (p : Phase) : Prop := p = .scanning ∨ (∃ a, p = .gathering a) ∨ ∃ b, p = .opening b

/-! ### Bytes and traces -/

/-- The bytes of the current frame already held, `x[0..cnt-1]` (R21). -/
def State.held (s : State) : List Byte := s.x.toList.take s.cnt.toNat

/-- The bytes that arrive during some turns. -/
def arrivals (ts : List Turn) : List Byte := ts.flatMap (·.arrive)

/-- A turn without reset in which the transport answers a poll by `rx`. -/
def pollTurn (arrive : List Byte) (now : Millis) (rx : RxAnswer) : Turn :=
  { rst := false, cmd := none, arrive := arrive, now := now, rx := rx, topen := .fail }

/-- A turn without reset in which the host offers command word `w`. -/
def commandTurn (w : Nibble) (now : Millis) : Turn :=
  { rst := false, cmd := some w, arrive := [], now := now, rx := .deliver 0, topen := .fail }

/-- A live stream at one instant: every byte arrives and is delivered in a turn of its own. -/
def feed (now : Millis) (bs : List Byte) : List Turn := bs.map fun b => pollTurn [b] now (.deliver 1)

/-- The byte pair `CR LF` stands nowhere in the bytes. -/
def NoPair (bs : List Byte) : Prop := ¬ [CR, LF] <:+: bs

/-- A stream of whole frames as the device sends them: bytes 0 to 8 with upper nibble 0x3, then `CR LF` (R60, R118). -/
def WireFrame (bs : List Byte) : Prop :=
  ∃ body : List Byte, body.length = 9 ∧ (∀ b ∈ body, hiNib b = 3) ∧ bs = body ++ [CR, LF]

/-- `Q` when ACQ or DISCARD polls after a turn: what was there, and what arrived. -/
def State.queueAfter (s : State) (t : Turn) : List Byte := s.q ++ t.arrive

end Sys2Proof.Machine
end

