-- ==== Sys2Proof/Certificates/Slice0/Obligations.lean ====
section
/-! DEFINITION. The statements for the provers: what the numbered rules of the spec say of this machine. `cfgRef` is the
spec's `CFG_REF`; where a statement does not name it, it holds under every code map of the constraints of R11
(`Cfg.valid`) or under every code map at all. -/

open Sys2Proof Sys2Proof.Machine

/-! ### Reset -/

/-- R39, R250: the state after reset: CLOSED, nothing held, all outputs 0, ready for a command. (These reset values are
the spec's own decision, D26.) -/
def Obligations.ResetLeavesTheBlockClosed : Prop :=
  (∀ i : Fin 11, State.reset.x[i] = 0) ∧ State.reset.cnt = 0 ∧ State.reset.synced = false ∧
  State.reset.opened = false ∧ State.reset.failed = false ∧ State.reset.board = .unknown ∧
  State.reset.prevCr = false ∧ State.reset.t0 = 0 ∧ State.reset.sample.word = 0 ∧ State.reset.rValid = false ∧
  State.reset.rCode.bits = 0 ∧ causeBits State.reset.rCause = 0 ∧ State.reset.mode = .closed ∧
  State.reset.cmdReady = true

/-- R250, R251: the reset input abandons whatever runs without a response; every state element has its reset value; the
transport is not closed, the parameters and the time base are not reset. A step may use many turns, and no turn with `rst`
is ever among them: a command taken or resumed stops before it, so that the next step is the reset. That bytes go on
arriving in `Q` during reset, and that the reset is a step of its own, is the model's choice (logs 7, 11). -/
def Obligations.ResetInputAbandonsTheCommand : Prop :=
  (∀ (s : State) (t : Turn) (rest : List Turn), s.tape = t :: rest → t.rst = true →
    step s = .next { State.reset with
      cfg := s.cfg, q := s.q ++ t.arrive, link := s.link, now := t.now, tape := rest }) ∧
  ∀ s t : State, (∃ i, exec i s = .next t) ∨ resume s = .next t ∨ (s.rstPending = false ∧ step s = .next t) →
    ∃ used, s.tape = used ++ t.tape ∧ ∀ u ∈ used, u.rst = false

/-! ### Encoding -/

/-- R76: the command word. -/
def Obligations.CommandWordsDecodeByOp : Prop :=
  ∀ b : Bool, ∀ op : BitVec 3,
    (op = 0 → decodeCommand (BitVec.ofBool b ++ op) = .reserved0) ∧
    (op = 1 → decodeCommand (BitVec.ofBool b ++ op) = .init (if b then .variantA else .unknown)) ∧
    (op = 2 → decodeCommand (BitVec.ofBool b ++ op) = .sync) ∧
    (op = 3 → decodeCommand (BitVec.ofBool b ++ op) = .acqNb) ∧
    (op = 4 → decodeCommand (BitVec.ofBool b ++ op) = .acqB) ∧
    (op = 5 → decodeCommand (BitVec.ofBool b ++ op) = .discard) ∧
    (op = 6 → decodeCommand (BitVec.ofBool b ++ op) = .teardown) ∧
    (op = 7 → decodeCommand (BitVec.ofBool b ++ op) = .reserved7)

/-- R60, R69, R76: decoding an encoded well-formed instruction gives it back, for every instruction and every code map. -/
def Obligations.DecodeUndoesEncode : Prop :=
  ∀ (c : Cfg) (i : Instr), c.valid = true → i.wf = true → decode c (encode c i) = .ok i

/-- R60, R81: a frame that decodes is the encoding of the well-formed instruction it decodes to: each good frame has one
meaning, and no bit of it is lost. -/
def Obligations.EncodeUndoesDecode : Prop :=
  ∀ (c : Cfg) (F : Frame) (i : Instr), c.valid = true → c.rangeNibbleAlways = true → decodeFrame c F = .ok i →
    encode c i = F.toList ∧ i.wf = true

/-- R81: every candidate frame is good or bad with exactly one cause, in the order of the checks. -/
def Obligations.EveryCandidateIsGoodOrHasOneCause : Prop :=
  ∀ (c : Cfg) (F : Frame), c.valid = true → c.rangeNibbleAlways = true →
    (decodeFrame c F = .error .invalidDigits ↔ ¬ digitsGood F) ∧
    (decodeFrame c F = .error .invalidFunction ↔ digitsGood F ∧ ¬ functionGood c F) ∧
    (decodeFrame c F = .error .invalidStatusOption ↔ digitsGood F ∧ functionGood c F ∧ ¬ optionsGood F) ∧
    (decodeFrame c F = .error .invalidTerminator ↔
      digitsGood F ∧ functionGood c F ∧ optionsGood F ∧ ¬ terminatorGood F) ∧
    (decodeFrame c F = .error .invalidRange ↔
      digitsGood F ∧ functionGood c F ∧ optionsGood F ∧ terminatorGood F ∧ ¬ rangeGood c F) ∧
    ((∃ i, decodeFrame c F = .ok i) ↔
      digitsGood F ∧ functionGood c F ∧ optionsGood F ∧ terminatorGood F ∧ rangeGood c F)

/-- R144: a range byte with a wrong upper nibble is an invalid range, for every function; with the parameter
`RANGE_NIBBLE_CHECK_ALWAYS` off, only for the seven functions with a table. -/
def Obligations.RangeNibbleIsCheckedForEveryFunction : Prop :=
  State.reset.cfg.rangeNibbleAlways = true ∧
  ∀ (c : Cfg) (F : Frame) (f : Func), c.valid = true → validate c F = none → F[5] = structural (c.code f) →
    hiNib F[0] ≠ 3 →
    (c.rangeNibbleAlways = true → decodeFrame c F = .error .invalidRange) ∧
    (c.rangeNibbleAlways = false → f.hasRanges = true → decodeFrame c F = .error .invalidRange) ∧
    (c.rangeNibbleAlways = false → f.hasRanges = false → ∃ i, decodeFrame c F = .ok i)

/-- R61, R76: some rows of the opcode table, as its words give them under CFG_REF (log 2); how the table's bits are
numbered as bytes is the model's reading (logs 3, 4). -/
def Obligations.TableWordsDecodeToTheirRows : Prop :=
  decodeTableWord 88 0x34333231303B3430300D0A = some (.volt4 ⟨3, 2, 1, 0, 4, 0, 0⟩) ∧
  decodeTableWord 88 0x3131323334333030300D0A = some (.res1 ⟨1, 2, 3, 4, 0, 0, 0⟩) ∧
  decodeTableWord 88 0x3F313233343E3030300D0A = some (.adp0 0xF ⟨1, 2, 3, 4, 0, 0, 0⟩) ∧
  decodeTableWord 88 0x3031323334373030300D0A = none ∧
  decodeTableWord 8 0x9 = some (.init .variantA) ∧
  decodeTableWord 8 0x5 = some .discard

/-! ### The step -/

/-- R18, R207: a command offered to an idle block is taken, and the step is that command's meaning. -/
def Obligations.StepRunsTheOfferedCommand : Prop :=
  ∀ (s : State) (t : Turn) (rest : List Turn) (w : Nibble),
    s.phase = .idle → s.tape = t :: rest → t.rst = false → t.cmd = some w →
    step s = exec (decodeCommand w)
      { s with q := s.q ++ t.arrive, now := t.now, tape := rest, rValid := false }

/-- R18, R206: a captured good frame runs as its decode row. That this is a step of its own is the model's choice (log 8). -/
def Obligations.StepRunsTheCapturedFrame : Prop :=
  ∀ (s : State) (a : Acq) (i : Instr),
    s.phase = .captured a → (∀ t ∈ s.tape.head?, t.rst = false) → decodeFrame s.cfg s.x = .ok i → step s = exec i s

/-- R126, R222: a captured bad frame ends the command with LostSync and its cause; the session is unsynchronised, no
Sample is returned, and nothing else changes. That a captured frame is a state of its own is the model's choice (log 8).
-/
def Obligations.BadFrameLosesSync : Prop :=
  ∀ (s : State) (a : Acq) (c : Cause),
    s.phase = .captured a → (∀ t ∈ s.tape.head?, t.rst = false) → decodeFrame s.cfg s.x = .error c →
    step s = .next { s with
      synced := false, rValid := true, rCode := .lostSync, rCause := c, sample := .zero, phase := .idle }

/-- R207: between commands the block does nothing: no poll, no drain; only the environment moves. That a block without a
next turn steps to itself is the model's choice (log 6). -/
def Obligations.IdleBlockDoesNothing : Prop :=
  ∀ s : State, s.phase = .idle →
    (s.tape = [] → step s = .next s) ∧
    (∀ t rest, s.tape = t :: rest → t.rst = false → t.cmd = none →
      step s = .next { s with q := s.q ++ t.arrive, now := t.now, tape := rest })

/-- R207: a command offered while another runs is not taken: what the host offers then makes no difference. (That such an
offer is lost and not held is the model's form, log 9.) -/
def Obligations.OffersAreIgnoredWhileACommandRuns : Prop :=
  ∀ s t : State, s.phase ≠ .idle → step s = .next t →
    step { s with tape := s.tape.map fun u => { u with cmd := none } } =
      .next { t with tape := t.tape.map fun u => { u with cmd := none } }

/-- R273: a command is a sequence of polls over time: a command that waits because the environment's turns ended, and is
resumed when more turns come, INIT included, ends as if all turns had been there from the start. The step resumes every
command in progress; a waiting acquisition goes on as the command itself would, so each later poll is as the first. A
command waits only where the turns end or the next one asserts `rst`, and there it changes nothing. Waiting itself is the
model's choice (logs 6, 7). -/
def Obligations.WaitingForMoreTurnsIsInvisible : Prop :=
  (∀ (s t : State) (ts us : List Turn) (i : Instr),
    i ∈ [Instr.sync, .acqNb, .acqB, .discard] ∨ (∃ b, i = .init b) →
    exec i { s with tape := ts } = .next t → t.tape = [] → t.phase.waits →
    exec i { s with tape := ts ++ us } = resume { t with tape := us }) ∧
  (∀ s : State, s.phase.waits → s.rstPending = false → step s = resume s) ∧
  (∀ (s : State) (i : Instr) (a : Acq), (i, a) ∈ [(Instr.acqNb, Acq.nonblocking), (.acqB, .blocking), (.discard, .drain)] →
    s.mode = .synced →
    (s.phase = .gathering a → s.rstPending = false → step s = exec i s) ∧
    (s.cnt.toNat ≤ 10 → s.tape = [] ∨ s.rstPending = true → exec i s = .next { s with phase := .gathering a })) ∧
  (∀ s : State, s.phase.waits → s.cnt.toNat ≤ 10 → s.tape = [] ∨ s.rstPending = true → resume s = .next s) ∧
  ∀ s t : State, (∃ i : Instr, i.payload? = none ∧ exec i s = .next t) ∨ resume s = .next t → t.phase.waits →
    t.tape = [] ∨ t.rstPending = true

/-! ### The decode rows -/

/-- R150: the five rows of VOLT, in volts, under every code map; their encodings and the invalid ranges under CFG_REF,
whose codes are the spec's own choice (R70, R71; log 2). -/
def Obligations.VoltRowsGiveVolts : Prop :=
  (∀ (p : Payload) (s : State), s.cfg.valid = true → s.phase ≠ .captured .drain →
    exec (.volt0 p) s = .next (s.withAnswer (closedSample s.cfg s.board .volt (.dec false (mantOf p) (-3)) p)) ∧
    exec (.volt1 p) s = .next (s.withAnswer (closedSample s.cfg s.board .volt (.dec false (mantOf p) (-2)) p)) ∧
    exec (.volt2 p) s = .next (s.withAnswer (closedSample s.cfg s.board .volt (.dec false (mantOf p) (-1)) p)) ∧
    exec (.volt3 p) s = .next (s.withAnswer (closedSample s.cfg s.board .volt (.dec false (mantOf p) 0) p)) ∧
    exec (.volt4 p) s = .next (s.withAnswer (closedSample s.cfg s.board .volt (.dec false (mantOf p) (-4)) p))) ∧
  (∀ degree board, unitOf (some .volt) degree board = .v) ∧
  ∀ p : Payload, p.wf = true →
    decodeFrame cfgRef (frameOf 0 0xB p) = .ok (.volt0 p) ∧ decodeFrame cfgRef (frameOf 1 0xB p) = .ok (.volt1 p) ∧
    decodeFrame cfgRef (frameOf 2 0xB p) = .ok (.volt2 p) ∧ decodeFrame cfgRef (frameOf 3 0xB p) = .ok (.volt3 p) ∧
    decodeFrame cfgRef (frameOf 4 0xB p) = .ok (.volt4 p) ∧
    ∀ rng : Nibble, 4 < rng.toNat → decodeFrame cfgRef (frameOf rng 0xB p) = .error .invalidRange

/-- R151 to R153: the rows of CUR_UA, CUR_MA and CUR_AUTO under every code map; their encodings under CFG_REF, whose
codes are the spec's own choice (R70, R71; log 2). -/
def Obligations.CurrentRowsGiveTheirUnits : Prop :=
  (∀ (p : Payload) (s : State), s.cfg.valid = true → s.phase ≠ .captured .drain →
    exec (.curUa0 p) s = .next (s.withAnswer (closedSample s.cfg s.board .curUa (.dec false (mantOf p) (-1)) p)) ∧
    exec (.curUa1 p) s = .next (s.withAnswer (closedSample s.cfg s.board .curUa (.dec false (mantOf p) 0) p)) ∧
    exec (.curMa0 p) s = .next (s.withAnswer (closedSample s.cfg s.board .curMa (.dec false (mantOf p) (-2)) p)) ∧
    exec (.curMa1 p) s = .next (s.withAnswer (closedSample s.cfg s.board .curMa (.dec false (mantOf p) (-1)) p)) ∧
    exec (.curAuto0 p) s = .next (s.withAnswer (closedSample s.cfg s.board .curAuto (.dec false (mantOf p) (-3)) p)) ∧
    exec (.curAuto1 p) s = .next (s.withAnswer (closedSample s.cfg s.board .curAuto (.dec false (mantOf p) (-2)) p))) ∧
  (∀ degree board, unitOf (some .curUa) degree board = .ua ∧ unitOf (some .curMa) degree board = .ma ∧
    unitOf (some .curAuto) degree board = .a) ∧
  ∀ p : Payload, p.wf = true →
    decodeFrame cfgRef (frameOf 0 0xD p) = .ok (.curUa0 p) ∧ decodeFrame cfgRef (frameOf 1 0xD p) = .ok (.curUa1 p) ∧
    decodeFrame cfgRef (frameOf 0 0x9 p) = .ok (.curMa0 p) ∧ decodeFrame cfgRef (frameOf 1 0x9 p) = .ok (.curMa1 p) ∧
    decodeFrame cfgRef (frameOf 0 0xF p) = .ok (.curAuto0 p) ∧
    decodeFrame cfgRef (frameOf 1 0xF p) = .ok (.curAuto1 p) ∧
    ∀ rng : Nibble, 1 < rng.toNat →
      decodeFrame cfgRef (frameOf rng 0xD p) = .error .invalidRange ∧
      decodeFrame cfgRef (frameOf rng 0x9 p) = .error .invalidRange ∧
      decodeFrame cfgRef (frameOf rng 0xF p) = .error .invalidRange

/-- R158, R166: CUR_MAN and TEMP have value zero whatever the digits and the range; OL and SIGN still apply, and TEMP's
degree flag and unit follow JUDGE. The encodings are those of CFG_REF, the spec's own choice (log 2). -/
def Obligations.UndecodedRowsGiveZero : Prop :=
  (∀ (rng : Nibble) (p : Payload) (s : State), s.phase ≠ .captured .drain →
    exec (.curMan rng p) s = .next (s.withAnswer (closedSample s.cfg s.board .curMan (.dec false 0 0) p)) ∧
    exec (.temp rng p) s = .next (s.withAnswer (closedSample s.cfg s.board .temp (.dec false 0 0) p)) ∧
    (closedSample s.cfg s.board .temp (.dec false 0 0) p).sDegree = flagBit p.st s.cfg.bitJUDGE ∧
    (closedSample s.cfg s.board .curMan (.dec false 0 0) p).sDegree = false) ∧
  ∀ (rng : Nibble) (p : Payload), p.wf = true →
    decodeFrame cfgRef (frameOf rng 0x0 p) = .ok (.curMan rng p) ∧
    decodeFrame cfgRef (frameOf rng 0x4 p) = .ok (.temp rng p)

/-- R159: the six rows of RES under CFG_REF, in ohms. All rows but the 4.000 kΩ one, and the codes, are the spec's own
choice (log 2). -/
def Obligations.ResRowsGiveOhms : Prop :=
  (∀ (p : Payload) (s : State), s.cfg = cfgRef → s.phase ≠ .captured .drain →
    exec (.res0 p) s = .next (s.withAnswer (closedSample cfgRef s.board .res (.dec false (mantOf p) (-1)) p)) ∧
    exec (.res1 p) s = .next (s.withAnswer (closedSample cfgRef s.board .res (.dec false (mantOf p) 0) p)) ∧
    exec (.res2 p) s = .next (s.withAnswer (closedSample cfgRef s.board .res (.dec false (mantOf p) 1) p)) ∧
    exec (.res3 p) s = .next (s.withAnswer (closedSample cfgRef s.board .res (.dec false (mantOf p) 2) p)) ∧
    exec (.res4 p) s = .next (s.withAnswer (closedSample cfgRef s.board .res (.dec false (mantOf p) 3) p)) ∧
    exec (.res5 p) s = .next (s.withAnswer (closedSample cfgRef s.board .res (.dec false (mantOf p) 4) p))) ∧
  (∀ degree board, unitOf (some .res) degree board = .ohm) ∧
  ∀ p : Payload, p.wf = true →
    decodeFrame cfgRef (frameOf 0 0x3 p) = .ok (.res0 p) ∧ decodeFrame cfgRef (frameOf 1 0x3 p) = .ok (.res1 p) ∧
    decodeFrame cfgRef (frameOf 2 0x3 p) = .ok (.res2 p) ∧ decodeFrame cfgRef (frameOf 3 0x3 p) = .ok (.res3 p) ∧
    decodeFrame cfgRef (frameOf 4 0x3 p) = .ok (.res4 p) ∧ decodeFrame cfgRef (frameOf 5 0x3 p) = .ok (.res5 p) ∧
    ∀ rng : Nibble, 5 < rng.toNat → decodeFrame cfgRef (frameOf rng 0x3 p) = .error .invalidRange

/-- R160, R161: CONT in ohms with placement XXXX, DIODE in volts with placement X.XXX, whatever the range nibble. The
encodings are those of CFG_REF, the spec's own choice (log 2). -/
def Obligations.ContAndDiodeIgnoreTheRange : Prop :=
  (∀ (rng : Nibble) (p : Payload) (s : State), s.phase ≠ .captured .drain →
    exec (.cont rng p) s = .next (s.withAnswer (closedSample s.cfg s.board .cont (.dec false (mantOf p) 0) p)) ∧
    exec (.diode rng p) s = .next (s.withAnswer (closedSample s.cfg s.board .diode (.dec false (mantOf p) (-3)) p))) ∧
  (∀ degree board, unitOf (some .cont) degree board = .ohm ∧ unitOf (some .diode) degree board = .v) ∧
  ∀ (rng : Nibble) (p : Payload), p.wf = true →
    decodeFrame cfgRef (frameOf rng 0x5 p) = .ok (.cont rng p) ∧
    decodeFrame cfgRef (frameOf rng 0x1 p) = .ok (.diode rng p)

/-- R162: the five rows of FREQ under CFG_REF, in hertz. Which placement goes with which scale, and the codes, are the
spec's own choice (log 2). -/
def Obligations.FreqRowsGiveHertz : Prop :=
  (∀ (p : Payload) (s : State), s.cfg = cfgRef → s.phase ≠ .captured .drain →
    exec (.freq0 p) s = .next (s.withAnswer (closedSample cfgRef s.board .freq (.dec false (mantOf p) 0) p)) ∧
    exec (.freq1 p) s = .next (s.withAnswer (closedSample cfgRef s.board .freq (.dec false (mantOf p) 1) p)) ∧
    exec (.freq2 p) s = .next (s.withAnswer (closedSample cfgRef s.board .freq (.dec false (mantOf p) 2) p)) ∧
    exec (.freq3 p) s = .next (s.withAnswer (closedSample cfgRef s.board .freq (.dec false (mantOf p) 3) p)) ∧
    exec (.freq4 p) s = .next (s.withAnswer (closedSample cfgRef s.board .freq (.dec false (mantOf p) 4) p))) ∧
  (∀ degree board, unitOf (some .freq) degree board = .hz) ∧
  ∀ p : Payload, p.wf = true →
    decodeFrame cfgRef (frameOf 0 0x2 p) = .ok (.freq0 p) ∧ decodeFrame cfgRef (frameOf 1 0x2 p) = .ok (.freq1 p) ∧
    decodeFrame cfgRef (frameOf 2 0x2 p) = .ok (.freq2 p) ∧ decodeFrame cfgRef (frameOf 3 0x2 p) = .ok (.freq3 p) ∧
    decodeFrame cfgRef (frameOf 4 0x2 p) = .ok (.freq4 p) ∧
    ∀ rng : Nibble, 4 < rng.toNat → decodeFrame cfgRef (frameOf rng 0x2 p) = .error .invalidRange

/-- R163: the seven rows of CAP under CFG_REF, in farads. Which placement goes with which scale, and the codes, are the
spec's own choice (log 2). -/
def Obligations.CapRowsGiveFarads : Prop :=
  (∀ (p : Payload) (s : State), s.cfg = cfgRef → s.phase ≠ .captured .drain →
    exec (.cap0 p) s = .next (s.withAnswer (closedSample cfgRef s.board .cap (.dec false (mantOf p) (-12)) p)) ∧
    exec (.cap1 p) s = .next (s.withAnswer (closedSample cfgRef s.board .cap (.dec false (mantOf p) (-11)) p)) ∧
    exec (.cap2 p) s = .next (s.withAnswer (closedSample cfgRef s.board .cap (.dec false (mantOf p) (-10)) p)) ∧
    exec (.cap3 p) s = .next (s.withAnswer (closedSample cfgRef s.board .cap (.dec false (mantOf p) (-9)) p)) ∧
    exec (.cap4 p) s = .next (s.withAnswer (closedSample cfgRef s.board .cap (.dec false (mantOf p) (-8)) p)) ∧
    exec (.cap5 p) s = .next (s.withAnswer (closedSample cfgRef s.board .cap (.dec false (mantOf p) (-7)) p)) ∧
    exec (.cap6 p) s = .next (s.withAnswer (closedSample cfgRef s.board .cap (.dec false (mantOf p) (-6)) p))) ∧
  (∀ degree board, unitOf (some .cap) degree board = .f) ∧
  ∀ p : Payload, p.wf = true →
    decodeFrame cfgRef (frameOf 0 0x6 p) = .ok (.cap0 p) ∧ decodeFrame cfgRef (frameOf 1 0x6 p) = .ok (.cap1 p) ∧
    decodeFrame cfgRef (frameOf 2 0x6 p) = .ok (.cap2 p) ∧ decodeFrame cfgRef (frameOf 3 0x6 p) = .ok (.cap3 p) ∧
    decodeFrame cfgRef (frameOf 4 0x6 p) = .ok (.cap4 p) ∧ decodeFrame cfgRef (frameOf 5 0x6 p) = .ok (.cap5 p) ∧
    decodeFrame cfgRef (frameOf 6 0x6 p) = .ok (.cap6 p) ∧
    ∀ rng : Nibble, 6 < rng.toNat → decodeFrame cfgRef (frameOf rng 0x6 p) = .error .invalidRange

/-- R168 to R171: ADP0 and ADP1 are the sentinel on the unknown board and decimals on VARIANT_A; ADP2 and ADP3 are the
sentinel on every board. The encodings are those of CFG_REF, the spec's own choice (log 2). -/
def Obligations.AuxiliaryRowsDependOnTheBoard : Prop :=
  (∀ (rng : Nibble) (p : Payload) (s : State), s.phase ≠ .captured .drain →
    (s.board = .unknown →
      exec (.adp0 rng p) s = .next (s.withAnswer (closedSample s.cfg .unknown .adp0 .sent p)) ∧
      exec (.adp1 rng p) s = .next (s.withAnswer (closedSample s.cfg .unknown .adp1 .sent p))) ∧
    (s.board = .variantA →
      exec (.adp0 rng p) s = .next (s.withAnswer (closedSample s.cfg .variantA .adp0 (.dec false (mantOf p) 0) p)) ∧
      exec (.adp1 rng p) s = .next (s.withAnswer (closedSample s.cfg .variantA .adp1 (.dec false (mantOf p) (-1)) p))) ∧
    exec (.adp2 rng p) s = .next (s.withAnswer (closedSample s.cfg s.board .adp2 .sent p)) ∧
    exec (.adp3 rng p) s = .next (s.withAnswer (closedSample s.cfg s.board .adp3 .sent p)) ∧
    (∀ f, (closedSample s.cfg s.board f .sent p).sOverflow = true)) ∧
  ∀ (rng : Nibble) (p : Payload), p.wf = true →
    decodeFrame cfgRef (frameOf rng 0xE p) = .ok (.adp0 rng p) ∧
    decodeFrame cfgRef (frameOf rng 0xC p) = .ok (.adp1 rng p) ∧
    decodeFrame cfgRef (frameOf rng 0x8 p) = .ok (.adp2 rng p) ∧
    decodeFrame cfgRef (frameOf rng 0xA p) = .ok (.adp3 rng p)

/-- R204: a good frame drained by DISCARD gives no response: its Sample is dropped, nothing else changes, and the drain
goes on. That it goes on in the next step is the model's choice (log 8). -/
def Obligations.DiscardDropsEveryGoodFrame : Prop :=
  ∀ (i : Instr) (p : Payload) (s : State), i.payload? = some p → s.phase = .captured .drain →
    exec i s = .next { s with phase := .gathering .drain }

/-! ### The Sample -/

/-- R188: the Flag Decoder in closed form, for every function, value, payload, board and code map. -/
def Obligations.FlagsInClosedForm : Prop :=
  ∀ (c : Cfg) (board : Board) (f : Func) (v : Val) (p : Payload), (∀ m e, v ≠ .dec true m e) →
    frameSample c board f v p = closedSample c board f v p

/-- R181, R182: OL forces the sentinel on every function and every value; SIGN negates a decimal, and never the sentinel,
be it forced by OL or by the row. Under CFG_REF they are bits 0 and 2 of the status byte (the spec's own choice,
log 2). -/
def Obligations.OverflowTakesPrecedenceOverSign : Prop :=
  (cfgRef.bitOL = 0 ∧ cfgRef.bitSIGN = 2) ∧
  ∀ (c : Cfg) (board : Board) (f : Func) (p : Payload) (m : BitVec 13) (e : Int),
    (flagBit p.st c.bitOL = true → ∀ v, (frameSample c board f v p).value = .sent ∧
      (frameSample c board f v p).sOverflow = true ∧ (frameSample c board f v p).sNeg = false) ∧
    ((frameSample c board f .sent p).value = .sent ∧ (frameSample c board f .sent p).sNeg = false) ∧
    (flagBit p.st c.bitOL = false → -16 ≤ e → e < 16 →
      (frameSample c board f (.dec false m e) p).value = .dec (flagBit p.st c.bitSIGN) m e ∧
      (frameSample c board f (.dec false m e) p).sOverflow = false)

/-- R186: DC is looked at first, AC second and wins; under CFG_REF they are bits 3 and 2 of the `option2` byte
(the spec's own choice, log 2). -/
def Obligations.AcWinsOverDc : Prop :=
  (cfgRef.bitDC = 3 ∧ cfgRef.bitAC = 2) ∧
  ∀ (c : Cfg) (board : Board) (f : Func) (v : Val) (p : Payload),
    (flagBit p.o2 c.bitDC = false → flagBit p.o2 c.bitAC = false → (frameSample c board f v p).sDcMode = false) ∧
    (flagBit p.o2 c.bitDC = true → flagBit p.o2 c.bitAC = false → (frameSample c board f v p).sDcMode = true) ∧
    (flagBit p.o2 c.bitDC = false → flagBit p.o2 c.bitAC = true → (frameSample c board f v p).sDcMode = false) ∧
    (flagBit p.o2 c.bitDC = true → flagBit p.o2 c.bitAC = true → (frameSample c board f v p).sDcMode = false)

/-- R189: of two captured frames that differ only in the bits of `option1` and `option2` that have no meaning, the step
makes the same of both: the same response, the same Sample, the same state but for those two bytes. -/
def Obligations.MeaninglessBitsDoNotChangeTheSample : Prop :=
  ∀ (s : State) (a : Acq) (b7 b8 : Byte), s.phase = .captured a → (∀ t ∈ s.tape.head?, t.rst = false) →
    hiNib b7 = hiNib s.x[7] → hiNib b8 = hiNib s.x[8] →
    flagBit (loNib b7) s.cfg.bitHOLD = flagBit (loNib s.x[7]) s.cfg.bitHOLD →
    flagBit (loNib b8) s.cfg.bitDC = flagBit (loNib s.x[8]) s.cfg.bitDC →
    flagBit (loNib b8) s.cfg.bitAC = flagBit (loNib s.x[8]) s.cfg.bitAC →
    flagBit (loNib b8) s.cfg.bitAUTO = flagBit (loNib s.x[8]) s.cfg.bitAUTO →
    ∃ t, step s = .next t ∧
      step { s with x := (s.x.set 7 b7).set 8 b8 } = .next { t with x := (s.x.set 7 b7).set 8 b8 }

/-- R195, R196: the unit codes, and the two labels the source gives. -/
def Obligations.UnitsLookupTable : Prop :=
  (∀ (degree : Bool) (board : Board),
    (unitOf none degree board).bits = 0 ∧ (unitOf (some .volt) degree board).bits = 1 ∧
    (unitOf (some .curUa) degree board).bits = 2 ∧ (unitOf (some .curMa) degree board).bits = 3 ∧
    (unitOf (some .curAuto) degree board).bits = 4 ∧ (unitOf (some .curMan) degree board).bits = 4 ∧
    (unitOf (some .res) degree board).bits = 5 ∧ (unitOf (some .cont) degree board).bits = 5 ∧
    (unitOf (some .diode) degree board).bits = 1 ∧ (unitOf (some .freq) degree board).bits = 6 ∧
    (unitOf (some .cap) degree board).bits = 7 ∧ (unitOf (some .temp) true board).bits = 8 ∧
    (unitOf (some .temp) false board).bits = 9 ∧ (unitOf (some .adp0) degree board).bits = 10 ∧
    (unitOf (some .adp1) degree board).bits = 10 ∧ (unitOf (some .adp2) degree board).bits = 10 ∧
    (unitOf (some .adp3) degree board).bits = 10) ∧
  UnitCode.ohm.label = "Ohms" ∧ UnitCode.v.label = "V"

/-- R80: the Sample word, field by field from the most significant. -/
def Obligations.SampleWordHoldsItsFields : Prop :=
  ∀ S : Sample,
    S.word.extractLsb' 31 8 = S.sFunc ∧ S.word.getLsbD 30 = S.sSent ∧ S.word.getLsbD 29 = S.sNeg ∧
    S.word.extractLsb' 16 13 = S.sMant ∧ S.word.extractLsb' 11 5 = S.sExp ∧ S.word.getLsbD 10 = S.sOverflow ∧
    S.word.getLsbD 9 = S.sDcMode ∧ S.word.getLsbD 8 = S.sAutoMode ∧ S.word.getLsbD 7 = S.sDegree ∧
    S.word.getLsbD 6 = S.sBatteryLow ∧ S.word.getLsbD 5 = S.sHold ∧ S.word.getLsbD 4 = boardBit S.sBoard ∧
    S.word.extractLsb' 0 4 = S.sUnit.bits

/-- R63: the reading in counts of a validated frame, in 13 bits without loss, and the divisor ladder for `X.XXX`. -/
def Obligations.CountsAreTheFourDigits : Prop :=
  ∀ (c : Cfg) (F : Frame) (p : Payload), validate c F = none → p = framePayload F →
    (mantOf p).toNat = 1000 * p.d3.toNat + 100 * p.d2.toNat + 10 * p.d1.toNat + p.d0.toNat ∧ (mantOf p).toNat ≤ 4999 ∧
    (decimal p (-3)).number =
      some (p.d3.toNat / 1 + p.d2.toNat / 10 + p.d1.toNat / 100 + p.d0.toNat / 1000 : ℚ)

/-- R65: the four placements, and the value of the digits under each, by the divisor ladder. -/
def Obligations.PlacementsFollowTheDivisorLadder : Prop :=
  (Placement.p0.pexp = -3 ∧ Placement.p1.pexp = -2 ∧ Placement.p2.pexp = -1 ∧ Placement.p3.pexp = 0) ∧
  ∀ p : Payload, p.wf = true →
    (∀ pl : Placement, (decimal p pl.pexp).number = some ((p.counts : ℚ) * (10 : ℚ) ^ pl.pexp)) ∧
    (decimal p Placement.p0.pexp).number =
      some (p.d3.toNat + p.d2.toNat / 10 + p.d1.toNat / 100 + p.d0.toNat / 1000 : ℚ) ∧
    (decimal p Placement.p1.pexp).number =
      some (10 * p.d3.toNat + p.d2.toNat + p.d1.toNat / 10 + p.d0.toNat / 100 : ℚ) ∧
    (decimal p Placement.p2.pexp).number =
      some (100 * p.d3.toNat + 10 * p.d2.toNat + p.d1.toNat + p.d0.toNat / 10 : ℚ) ∧
    (decimal p Placement.p3.pexp).number =
      some (1000 * p.d3.toNat + 100 * p.d2.toNat + 10 * p.d1.toNat + p.d0.toNat : ℚ)

/-- R172: a good frame returned as a Sample passes its function byte through unchanged. -/
def Obligations.FunctionBytePassesThrough : Prop :=
  ∀ (s : State) (a : Acq) (i : Instr), s.cfg.valid = true → s.phase = .captured a → a ≠ .drain →
    (∀ t ∈ s.tape.head?, t.rst = false) → decodeFrame s.cfg s.x = .ok i →
    ∃ t, step s = .next t ∧ t.rCode = .ok ∧ t.rValid = true ∧ t.sample.sFunc = s.x[5]

/-- R142, R143, R49: under every code map, the table row a captured frame names gives the Sample's exponent, the digits
its counts, and a range code without a row ends the command with LostSync. -/
def Obligations.RangeTableGivesTheExponent : Prop :=
  ∀ (s : State) (a : Acq) (f : Func), s.cfg.valid = true → s.phase = .captured a → a ≠ .drain →
    (∀ t ∈ s.tape.head?, t.rst = false) → validate s.cfg s.x = none → hiNib s.x[0] = 3 →
    s.x[5] = structural (s.cfg.code f) → f.hasRanges = true →
    (∀ row, s.cfg.lut f (loNib s.x[0]) = some row →
      ∃ t, step s = .next t ∧ t.rCode = .ok ∧ t.synced = s.synced ∧
        (flagBit (loNib s.x[6]) s.cfg.bitOL = false →
          t.sample.sSent = false ∧ t.sample.sExp = BitVec.ofInt 5 (row.placement.pexp + row.scale10) ∧
          t.sample.sMant.toNat = 1000 * (loNib s.x[1]).toNat + 100 * (loNib s.x[2]).toNat +
            10 * (loNib s.x[3]).toNat + (loNib s.x[4]).toNat)) ∧
    (s.cfg.lut f (loNib s.x[0]) = none →
      ∃ t, step s = .next t ∧ t.rCode = .lostSync ∧ t.rCause = .invalidRange ∧ t.synced = false ∧
        t.sample = Sample.zero)

/-! ### The commands -/

/-- R200, R32: INIT closes an open transport, resets every register, and opens a Session when `TOpen` answers `ok`; when
it answers `fail`, the state stays at its reset values. While no answer is there INIT waits, and the result outputs keep
their value; the step that resumes it gives the same two answers. That `TOpen` is answered in the next turn and that INIT
waits for it are the model's form of the transport's answer (logs 6, 9), and what a failed INIT leaves of `q` and of the
link is its choice (log 11). -/
def Obligations.InitOpensTheSession : Prop :=
  (∀ (b : Board) (s : State) (t : Turn) (rest : List Turn), s.tape = t :: rest → t.rst = false →
    (∀ q0, t.topen = .ok q0 →
      exec (.init b) s = .next { State.reset with
        cfg := s.cfg, opened := true, board := b, rValid := true, q := q0, link := true, now := t.now, tape := rest }) ∧
    (t.topen = .fail →
      exec (.init b) s = .next { State.reset with
        cfg := s.cfg, rValid := true, rCode := .initFailure, q := s.q ++ t.arrive, link := s.link && !s.opened,
        now := t.now, tape := rest })) ∧
  (∀ (b : Board) (s : State), s.tape = [] ∨ s.rstPending = true →
    exec (.init b) s = .next { State.reset with
      cfg := s.cfg, rCode := s.rCode, rCause := s.rCause, sample := s.sample, phase := .opening b, q := s.q,
      link := s.link && !s.opened, now := s.now, tape := s.tape }) ∧
  ∀ (b : Board) (s : State), s.phase = .opening b →
    (s.tape = [] → step s = .next s) ∧
    ∀ (t : Turn) (rest : List Turn), s.tape = t :: rest → t.rst = false →
      (∀ q0, t.topen = .ok q0 → step s = .next { s with
        opened := true, board := b, q := q0, link := true, now := t.now, tape := rest,
        rValid := true, rCode := .ok, rCause := .none, sample := .zero, phase := .idle }) ∧
      (t.topen = .fail → step s = .next { s with
        q := s.q ++ t.arrive, now := t.now, tape := rest,
        rValid := true, rCode := .initFailure, rCause := .none, sample := .zero, phase := .idle })

/-- R205: TEARDOWN releases the transport and resets every state element; in CLOSED mode it answers NoSession. That `q`
stays is the model's choice (log 11). -/
def Obligations.TeardownReleasesTheTransport : Prop :=
  ∀ s : State,
    (s.opened = true → exec .teardown s = .next { State.reset with
      cfg := s.cfg, rValid := true, q := s.q, link := false, now := s.now, tape := s.tape }) ∧
    (s.opened = false → exec .teardown s = .next (s.withError .noSession .none))

/-- R209: reserved commands answer BadCommand in every mode and change no state. -/
def Obligations.ReservedCommandsAnswerBadCommand : Prop :=
  ∀ s : State, exec .reserved0 s = .next (s.withError .badCommand .none) ∧
    exec .reserved7 s = .next (s.withError .badCommand .none)

/-- R208: the answers given by the mode alone: they change no register, and touch neither the transport nor the time. -/
def Obligations.ModesRefuseCommands : Prop :=
  ∀ (s : State) (i : Instr),
    (s.mode = .closed → i ∈ [Instr.sync, .acqNb, .acqB, .discard, .teardown] →
      exec i s = .next (s.withError .noSession .none)) ∧
    (s.mode = .failed → i ∈ [Instr.sync, .acqNb, .acqB, .discard] →
      exec i s = .next (s.withError .transportFailure .none)) ∧
    (s.mode = .unsynced → i ∈ [Instr.acqNb, .acqB, .discard] →
      exec i s = .next (s.withError .lostSync .notSynced))

/-- R110, R113, R114: SYNC on a live stream consumes the bytes through the first CR LF pair and no more, and leaves the
session synchronised with an empty buffer; nothing else of the block changes but `t0` and the scanner's memory. -/
def Obligations.SyncFindsTheFirstTerminator : Prop :=
  ∀ (s : State) (bs : List Byte) (rest : List Turn),
    s.opened = true → s.failed = false → 0 < s.cfg.deadline s.board → NoPair bs →
    s.tape = feed s.now (bs ++ [CR, LF]) ++ rest →
    exec .sync s = .next { s with
      synced := true, cnt := 0, prevCr := true, t0 := s.now, q := [], tape := rest,
      rValid := true, rCode := .ok, rCause := .none, sample := .zero, phase := .idle }

/-- R111, R113 to R116: SYNC starts with an empty queue, `t0` latched and `prev_cr` 0, and then scans; in EVERY iteration,
whenever SYNC was taken, the deadline measured from `t0` comes first, and then no byte is read; in time, a failing poll ends
SYNC with TransportFailure, an empty poll changes no register, `LF` after `CR` ends it with OK, and any other byte is
remembered in `prev_cr` only. The last two clauses say the first iteration of a SYNC just taken in full. That an iteration
begins with a turn is the model's choice (logs 9, 10). -/
def Obligations.SyncChecksTheDeadlineBeforeThePoll : Prop :=
  (∀ s : State, s.opened = true → s.failed = false →
    exec .sync s = resume { s with
      synced := false, cnt := 0, prevCr := false, t0 := s.now, q := [], phase := .scanning }) ∧
  (∀ (s : State) (t : Turn) (rest : List Turn), s.phase = .scanning → s.tape = t :: rest → t.rst = false →
    step s = resume s ∧
    (s.cfg.deadline s.board ≤ (t.now - s.t0).toNat →
      step s = .next { s with
        q := s.queueAfter t, now := t.now, tape := rest,
        rValid := true, rCode := .syncTimeout, rCause := .none, sample := .zero, phase := .idle }) ∧
    ((t.now - s.t0).toNat < s.cfg.deadline s.board →
      (t.rx = .fail → step s = .next { s with
        q := s.queueAfter t, now := t.now, tape := rest, failed := true,
        rValid := true, rCode := .transportFailure, rCause := .none, sample := .zero, phase := .idle }) ∧
      ∀ k, t.rx = .deliver k →
        (k = 0 ∨ s.queueAfter t = [] →
          step s = resume { s with q := s.queueAfter t, now := t.now, tape := rest }) ∧
        ∀ b bs, k ≠ 0 → s.queueAfter t = b :: bs →
          (s.prevCr = true ∧ b = LF → step s = .next { s with
            synced := true, cnt := 0, q := bs, now := t.now, tape := rest,
            rValid := true, rCode := .ok, rCause := .none, sample := .zero, phase := .idle }) ∧
          (¬ (s.prevCr = true ∧ b = LF) →
            step s = resume { s with prevCr := decide (b = CR), q := bs, now := t.now, tape := rest }))) ∧
  ∀ (s : State) (t : Turn) (rest : List Turn),
    s.opened = true → s.failed = false → s.tape = t :: rest → t.rst = false →
    (s.cfg.deadline s.board ≤ (t.now - s.now).toNat →
      exec .sync s = .next { s with
        synced := false, cnt := 0, prevCr := false, t0 := s.now, q := t.arrive, now := t.now, tape := rest,
        rValid := true, rCode := .syncTimeout, rCause := .none, sample := .zero, phase := .idle }) ∧
    ((t.now - s.now).toNat < s.cfg.deadline s.board → t.rx = .fail →
      exec .sync s = .next { s with
        synced := false, cnt := 0, prevCr := false, t0 := s.now, q := t.arrive, now := t.now, tape := rest,
        failed := true,
        rValid := true, rCode := .transportFailure, rCause := .none, sample := .zero, phase := .idle })

/-- R201: SYNC in a live session always goes on, and ends with OK, SyncTimeout or TransportFailure or is still scanning;
what it leaves in each case, and what it never touches. That it waits when the turns end is the model's (log 6). -/
def Obligations.SyncEndsInOneOfThreeWays : Prop :=
  ∀ s : State, s.opened = true → s.failed = false →
    ∃ t, exec .sync s = .next t ∧
      ((t.phase = .idle ∧ t.rCode = .ok ∧ t.synced = true ∧ t.failed = false) ∨
       (t.phase = .idle ∧ t.rCode = .syncTimeout ∧ t.synced = false ∧ t.failed = false) ∨
       (t.phase = .idle ∧ t.rCode = .transportFailure ∧ t.synced = false ∧ t.failed = true) ∨
       (t.phase = .scanning ∧ t.synced = false ∧ t.failed = false)) ∧
      t.cnt = 0 ∧ t.x = s.x ∧ t.board = s.board ∧ t.opened = true ∧ t.link = s.link ∧ t.cfg = s.cfg ∧ t.t0 = s.now ∧
      (t.phase = .idle → t.rValid = true ∧ t.rCause = .none ∧ t.sample = .zero)

/-- R114, R117: whatever the turns, a SYNC that ends OK has consumed exactly the live bytes up to and including the first
CR LF pair. -/
def Obligations.SyncOkConsumesThroughTheFirstPair : Prop :=
  ∀ s t : State, s.opened = true → s.failed = false → exec .sync s = .next t → t.phase = .idle → t.rCode = .ok →
    ∃ (used : List Turn) (pre : List Byte), s.tape = used ++ t.tape ∧
      arrivals used = pre ++ [CR, LF] ++ t.q ∧ NoPair (pre ++ [CR])

/-- R118: on a stream of well-formed frames, entered anywhere, a successful SYNC ends aligned: what is still to be read is
a whole number of frames. -/
def Obligations.SyncEndsAlignedOnAWellFormedStream : Prop :=
  ∀ (s t : State) (frames : List (List Byte)) (k : Nat), (∀ f ∈ frames, WireFrame f) →
    arrivals s.tape = frames.flatten.drop k → s.opened = true → s.failed = false →
    exec .sync s = .next t → t.phase = .idle → t.rCode = .ok →
    ∃ j, t.q ++ arrivals t.tape = (frames.drop j).flatten

/-- R101 to R103, R105 (b): one poll that delivers all missing bytes completes the frame: held bytes stay, the new bytes
follow in order, `cnt` goes to 0, no further byte is taken. One that delivers `n` bytes, at least one but not all missing,
appends them, and the command polls again at once, as if it had started with them; the same for ACQ.NB, ACQ.B and DISCARD.
(WaitingForMoreTurnsIsInvisible carries both to the polls of a resumed command.) A complete frame is validated in the next
step (the model's division, log 8). -/
def Obligations.OnePollCompletesTheFrame : Prop :=
  ∀ (s : State) (t : Turn) (rest : List Turn) (k : Nat),
    s.mode = .synced → s.cnt.toNat ≤ 10 → s.tape = t :: rest → t.rst = false → t.rx = .deliver k →
    (11 - s.cnt.toNat ≤ k → 11 - s.cnt.toNat ≤ (s.queueAfter t).length →
      ∃ x' : Frame, x'.toList = s.held ++ (s.queueAfter t).take (11 - s.cnt.toNat) ∧
        ∀ i a, (i, a) ∈ [(Instr.acqNb, Acq.nonblocking), (.acqB, .blocking), (.discard, .drain)] →
          exec i s = .next { s with
            x := x', cnt := 0, phase := .captured a, q := (s.queueAfter t).drop (11 - s.cnt.toNat),
            now := t.now, tape := rest }) ∧
    ∀ n, n = min k (s.queueAfter t).length → 1 ≤ n → n < 11 - s.cnt.toNat →
      ∃ x' : Frame, x'.toList = s.held ++ (s.queueAfter t).take n ++ s.x.toList.drop (s.cnt.toNat + n) ∧
        ∀ i ∈ [Instr.acqNb, .acqB, .discard],
          exec i s = exec i { s with
            x := x', cnt := s.cnt + BitVec.ofNat 4 n, q := (s.queueAfter t).drop n, now := t.now, tape := rest }

/-- R104, R105, R204: an empty poll: ACQ.NB answers WouldBlock and keeps everything; ACQ.B polls again as if nothing had
happened; DISCARD ends with OK when no byte is held, and else resynchronises. -/
def Obligations.EmptyPollEndsOnlyTheNonblocking : Prop :=
  ∀ (s : State) (t : Turn) (rest : List Turn) (k : Nat),
    s.mode = .synced → s.cnt.toNat ≤ 10 → s.tape = t :: rest → t.rst = false → t.rx = .deliver k →
    (k = 0 ∨ s.queueAfter t = []) →
    exec .acqNb s = .next { s with
      q := s.queueAfter t, now := t.now, tape := rest,
      rValid := true, rCode := .wouldBlock, rCause := .none, sample := .zero, phase := .idle } ∧
    exec .acqB s = exec .acqB { s with q := s.queueAfter t, now := t.now, tape := rest } ∧
    (s.cnt = 0 → exec .discard s = .next { s with
      q := s.queueAfter t, now := t.now, tape := rest,
      rValid := true, rCode := .ok, rCause := .none, sample := .zero, phase := .idle }) ∧
    (s.cnt ≠ 0 → exec .discard s = exec .sync { s with q := s.queueAfter t, now := t.now, tape := rest })

/-- R106: a failing poll ends ACQ.NB, ACQ.B and DISCARD with TransportFailure: `failed` is set, no byte is delivered, and
`cnt`, the held bytes and `synced` stay. -/
def Obligations.FailingPollEndsTheAcquisition : Prop :=
  ∀ (s : State) (t : Turn) (rest : List Turn) (i : Instr),
    s.mode = .synced → s.cnt.toNat ≤ 10 → s.tape = t :: rest → t.rst = false → t.rx = .fail →
    i ∈ [Instr.acqNb, .acqB, .discard] →
    exec i s = .next { s with
      failed := true, q := s.queueAfter t, now := t.now, tape := rest,
      rValid := true, rCode := .transportFailure, rCause := .none, sample := .zero, phase := .idle }

/-- R107: whatever the turns, no byte is skipped, repeated or reordered: a captured frame is the bytes held followed by
the bytes the transport delivered next, what it did not deliver is still in `Q`; and an acquisition that captures no frame
keeps every byte. -/
def Obligations.AccumulatorKeepsTheByteOrder : Prop :=
  ∀ (s t : State) (i : Instr), s.mode = .synced → s.cnt.toNat ≤ 10 → i ∈ [Instr.acqNb, .acqB, .discard] →
    exec i s = .next t →
    ∃ used : List Turn, s.tape = used ++ t.tape ∧
      ((∃ a, t.phase = .captured a) → t.cnt = 0 ∧ t.x.toList ++ t.q = s.held ++ s.q ++ arrivals used) ∧
      ((∀ a, t.phase ≠ .captured a) → i ≠ .discard →
        t.cnt.toNat ≤ 10 ∧ t.held ++ t.q = s.held ++ s.q ++ arrivals used)

/-- R104: WouldBlock is never answered by a blocking acquisition, whatever the bytes, at once or after waiting. -/
def Obligations.BlockingAcquisitionNeverAnswersWouldBlock : Prop :=
  (∀ s t : State, exec .acqB s = .next t → t.phase = .idle → t.rCode ≠ .wouldBlock) ∧
  (∀ s t : State, s.phase = .gathering .blocking → step s = .next t → t.phase = .idle → t.rCode ≠ .wouldBlock)

/-- R202, R203, R206: an acquisition of a synchronised session that finds the frame of a decode row in `Q` runs that row
on it, and takes not one byte more. That it takes two steps is the model's choice (log 8). -/
def Obligations.AcquisitionRunsTheEncodedRow : Prop :=
  ∀ (s : State) (i : Instr) (p : Payload) (extra : List Byte) (rest : List Turn) (tc tp : Millis) (w : Nibble) (a : Acq),
    (w, a) ∈ [((3 : Nibble), Acq.nonblocking), (4, .blocking)] → s.cfg.valid = true → i.payload? = some p →
    i.wf = true → s.mode = .synced → s.phase = .idle → s.cnt = 0 → s.q = encode s.cfg i ++ extra →
    (∀ t ∈ rest.head?, t.rst = false) → s.tape = commandTurn w tc :: pollTurn [] tp (.deliver 11) :: rest →
    ∃ x' : Frame, x'.toList = encode s.cfg i ∧
      Host.Core.run Sys2Proof.core 2 s = exec i { s with
        x := x', q := extra, now := tp, tape := rest, rValid := false, phase := .captured a }

/-- R204: DISCARD consumes any number of complete good frames, answers OK, and leaves the buffer empty and the session
synchronised. The number of steps is the model's (log 8). -/
def Obligations.DiscardDrainsWholeFrames : Prop :=
  ∀ (s : State) (rows : List Instr) (rest : List Turn) (t : Millis), s.cfg.valid = true →
    (∀ i ∈ rows, i.payload?.isSome = true ∧ i.wf = true) → s.mode = .synced → s.phase = .idle → s.cnt = 0 →
    s.q = rows.flatMap (encode s.cfg) →
    s.tape = commandTurn 5 t :: (rows.map fun _ => pollTurn [] t (.deliver 11)) ++ pollTurn [] t (.deliver 11) :: rest →
    ∃ u, Host.Core.run Sys2Proof.core (2 * rows.length + 1) s = .next u ∧
      u.phase = .idle ∧ u.rValid = true ∧ u.rCode = .ok ∧ u.sample = Sample.zero ∧ u.synced = true ∧ u.cnt = 0 ∧
      u.q = [] ∧ u.tape = rest

/-! ### The whole machine -/

/-- The invariant holds after reset. -/
def Obligations.InvariantHoldsAtReset : Prop := Inv State.reset

/-- R36 (a), (b), (c), (e), R235: every step keeps the invariant, from every state that has it: `cnt` at most 10, a closed
session has every register at its reset value, an unsynchronised session holds no partial frame, an acquisition runs only
in SYNCED mode, a Sample is returned only by a synchronised session and is all zero otherwise, its value is a decimal of
at most 4999 counts or the sentinel, and a LostSync leaves the session unsynchronised with an empty buffer. -/
def Obligations.EveryStepKeepsTheInvariant : Prop :=
  ∀ s t : State, Inv s → step s = .next t → Inv t

/-- No state that has the invariant stops: every step of a run goes on. -/
def Obligations.NoRunStops : Prop :=
  ∀ s : State, Inv s → Goes (step s)

/-- R25: `synced` is set only by a SYNC that found the terminator. -/
def Obligations.OnlyASuccessfulSyncSynchronises : Prop :=
  ∀ s t : State, Inv s → step s = .next t → s.synced = false → t.synced = true →
    (s.phase = .scanning ∨
      (s.phase = .idle ∧ ∃ u rest w, s.tape = u :: rest ∧ u.cmd = some w ∧ decodeCommand w = .sync)) ∧
    t.phase = .idle ∧ t.rValid = true ∧ t.rCode = .ok ∧ t.cnt = 0 ∧ t.prevCr = true ∧ t.sample = Sample.zero

/-- R236, R235, R27: the mode transitions of one step. CLOSED is left only to UNSYNCED, by the OK of an INIT; CLOSED is
entered only by TEARDOWN, by INIT (which waits, or failed) or by the reset input; FAILED is left only to CLOSED or, by the OK
of an INIT, to UNSYNCED, and entered only by a TransportFailure of a live session; UNSYNCED goes to SYNCED only with an OK;
SYNCED goes to UNSYNCED only by a LostSync, a SyncTimeout, the OK of an INIT, or by a scan still under way. That a step may
end while an INIT or a SYNC is still under way is the model's form (log 6). -/
def Obligations.ModesChangeOnlyAsTheTableAllows : Prop :=
  ∀ s t : State, Inv s → step s = .next t →
    (s.mode = .closed → t.mode = .closed ∨
      (t.mode = .unsynced ∧ t.rCode = .ok ∧ t.phase = .idle ∧ ∃ b, s.takes (.init b) ∨ s.phase = .opening b)) ∧
    (s.mode ≠ .closed → t.mode = .closed → s.rstPending = true ∨ s.takes .teardown ∨ ∃ b, s.takes (.init b)) ∧
    (s.rstPending = true → t.mode = .closed) ∧
    (s.takes .teardown → t.mode = .closed) ∧
    (∀ b, s.takes (.init b) →
      (t.mode = .closed ∧ (t.phase = .opening b ∨ t.rCode = .initFailure)) ∨ (t.mode = .unsynced ∧ t.rCode = .ok)) ∧
    (s.mode = .failed → t.mode = .failed ∨ t.mode = .closed ∨
      (t.mode = .unsynced ∧ t.rCode = .ok ∧ ∃ b, s.takes (.init b))) ∧
    (s.mode ≠ .failed → t.mode = .failed → s.mode ≠ .closed ∧ t.phase = .idle ∧ t.rCode = .transportFailure) ∧
    (s.mode = .unsynced → t.mode = .synced → t.phase = .idle ∧ t.rCode = .ok) ∧
    (s.mode = .synced → t.mode = .unsynced →
      t.phase = .scanning ∨
      (t.phase = .idle ∧ (t.rCode = .lostSync ∨ t.rCode = .syncTimeout ∨ (t.rCode = .ok ∧ ∃ b, s.takes (.init b)))))

/-- R37, R251: no step changes the parameters. -/
def Obligations.ParametersNeverChange : Prop :=
  ∀ s t : State, step s = .next t → t.cfg = s.cfg

/-- R22, R108: the frame buffer is written by the Accumulator only, and reset by INIT, TEARDOWN and the reset input. -/
def Obligations.OnlyTheAccumulatorWritesTheFrameBuffer : Prop :=
  ∀ s t : State, step s = .next t → t.x ≠ s.x →
    s.rstPending = true ∨ (∃ a, s.phase = .gathering a) ∨
    (s.phase = .idle ∧ ∃ u rest w, s.tape = u :: rest ∧ u.cmd = some w ∧
      (decodeCommand w ∈ [Instr.acqNb, .acqB, .discard, .teardown] ∨ ∃ b, decodeCommand w = .init b))

/-- R42, R44: a poll delivers a prefix of `Q` of at most `n` bytes and removes it, any such length can be delivered, and
`Fail` delivers nothing. -/
def Obligations.PollsDeliverAPrefix : Prop :=
  ∀ (n : Nat) (q : List Byte),
    (∀ k, ∃ bs, pollAnswer n (.deliver k) q = .data bs ∧ bs ++ pollRest n (.deliver k) q = q ∧ bs.length ≤ n) ∧
    (∀ k, k ≤ n → k ≤ q.length → pollAnswer n (.deliver k) q = .data (q.take k)) ∧
    pollAnswer n .fail q = .fail ∧ pollRest n .fail q = q

/-- A decode row or command placed by the table's bits is what the next step runs (the model's way of placing a first
instruction, logs 3, 4, 6). -/
def Obligations.PlacedInstructionRunsNext : Prop :=
  ∀ (s : State) (w : Nat) (i : Instr), s.cfg = cfgRef →
    (decodeTableWord 88 w = some i → step (s.withFetchWord 88 w) = exec i (s.withFetchWord 88 w)) ∧
    (w < 16 → decodeTableWord 8 w = some i →
      step (s.withFetchWord 8 w) = exec i { s with phase := .idle, rValid := false })

/-- R78, R79: the codes of the responses and of the causes, every row of the two tables (the numbers are the spec's own
decision, D22); no two responses and no two causes share a code, and cause code 7 is never produced. -/
def Obligations.ResponseAndCauseCodes : Prop :=
  (RespCode.ok.bits = 0 ∧ RespCode.wouldBlock.bits = 1 ∧ RespCode.lostSync.bits = 2 ∧ RespCode.syncTimeout.bits = 3 ∧
    RespCode.transportFailure.bits = 4 ∧ RespCode.noSession.bits = 5 ∧ RespCode.initFailure.bits = 6 ∧
    RespCode.badCommand.bits = 7) ∧
  (causeBits .none = 0 ∧ causeBits .invalidDigits = 1 ∧ causeBits .invalidFunction = 2 ∧ causeBits .invalidRange = 3 ∧
    causeBits .invalidStatusOption = 4 ∧ causeBits .invalidTerminator = 5 ∧ causeBits .notSynced = 6) ∧
  (∀ a b : RespCode, a.bits = b.bits → a = b) ∧ (∀ a b : Cause, causeBits a = causeBits b → a = b) ∧
  ∀ c : Cause, causeBits c ≠ 7

/-- R27, R28, R32: `failed` is set only when a command ends with a TransportFailure and cleared only by INIT, TEARDOWN and
the reset input; `board` is written by an INIT from its operand, and otherwise only reset, by INIT, TEARDOWN and the reset
input; the result outputs change only when a command ends, and at the reset input. A command that ends ran before or was
taken in this step. From every state, reached or not. -/
def Obligations.FailedBoardAndOutputsChangeOnlyAtTheirEvents : Prop :=
  ∀ s t : State, step s = .next t →
    (s.failed = false → t.failed = true → s.active ∧ t.phase = .idle ∧ t.rValid = true ∧ t.rCode = .transportFailure) ∧
    (s.failed = true → t.failed = false →
      s.rstPending = true ∨ s.takes .teardown ∨ ∃ b, s.takes (.init b)) ∧
    (t.board ≠ s.board →
      (t.board = .unknown ∧ (s.rstPending = true ∨ s.takes .teardown ∨ ∃ b, s.takes (.init b))) ∨
      (t.phase = .idle ∧ t.rCode = .ok ∧ (s.takes (.init t.board) ∨ s.phase = .opening t.board))) ∧
    (s.rstPending = true ∨ (s.active ∧ t.phase = .idle ∧ t.rValid = true) ∨
      (t.rCode = s.rCode ∧ t.rCause = s.rCause ∧ t.sample = s.sample))
end

