-- ==== Sys2Proof/Laws/Decoding.lean ====
section
/-! SUPPORT. Laws of the bit fields, of the decoder's parts and of the decode rows. -/

namespace Sys2Proof

@[simp] theorem hiNib_structural (v : Nibble) : hiNib (structural v) = nibHi := by
  revert v; decide

@[simp] theorem loNib_structural (v : Nibble) : loNib (structural v) = v := by
  revert v; decide

/-- A byte with upper nibble 0x3 is the structural byte of its lower nibble (R60). -/
theorem structural_loNib (b : Byte) (h : hiNib b = nibHi) : structural (loNib b) = b := by
  revert b; decide

/-- The scales of the rows are a set of scales exactly when both have the same members (R149). -/
theorem RangeRow.scalesAre_iff (rows : List RangeRow) (scales : List Int) :
    RangeRow.scalesAre rows scales = true ↔ ∀ x, x ∈ rows.map (·.scale10) ↔ x ∈ scales := by
  simp only [RangeRow.scalesAre, Bool.and_eq_true, List.all_eq_true, decide_eq_true_eq, List.mem_map]
  constructor
  · rintro ⟨h1, h2⟩ x
    exact ⟨fun ⟨r, hr, e⟩ => e ▸ h1 r hr, h2 x⟩
  · exact fun h => ⟨fun r hr => (h _).1 ⟨r, hr, rfl⟩, fun x => (h x).2⟩

/-- Every function is listed in `Func.all` (R64). -/
theorem Func.mem_all (f : Func) : f ∈ Func.all := by
  cases f <;> decide

/-- The payload and the nibbles of the frame of given fields are those fields (R60, R62). -/
@[simp] theorem framePayload_frameOf (rng fn : Nibble) (p : Payload) : framePayload (frameOf rng fn p) = p := by
  simp [framePayload, frameOf]

/-- A row that is found stands in the list, with the code asked for (R49). -/
theorem pickRow_ok (rng : Nibble) (rows : List (RangeRow × Instr)) (i : Instr) (h : pickRow rng rows = .ok i) :
    ∃ row, (row, i) ∈ rows ∧ row.code = rng := by
  induction rows with
  | nil => simp [pickRow] at h
  | cons r rest ih =>
    obtain ⟨row, j⟩ := r
    simp only [pickRow] at h
    split at h
    · rename_i hc
      cases h
      exact ⟨row, by simp, hc⟩
    · obtain ⟨row', hm, hc⟩ := ih h
      exact ⟨row', by simp [hm], hc⟩

/-- The only error of the row table is the invalid range (R143). -/
theorem pickRow_error (rng : Nibble) (rows : List (RangeRow × Instr)) (e : Cause) (h : pickRow rng rows = .error e) :
    e = .invalidRange := by
  induction rows with
  | nil => simpa [pickRow] using h.symm
  | cons r rest ih =>
    obtain ⟨row, j⟩ := r
    simp only [pickRow] at h
    split at h
    · simp at h
    · exact ih h

/-- The row of a table is not found exactly when no row has the code (R49, R143). -/
theorem pickRow_none (rng : Nibble) (rows : List (RangeRow × Instr)) :
    pickRow rng rows = .error .invalidRange ↔ ∀ r ∈ rows, r.1.code ≠ rng := by
  induction rows with
  | nil => simp [pickRow]
  | cons r rest ih =>
    obtain ⟨row, j⟩ := r
    simp only [pickRow]
    split <;> simp_all

/-- What holds of every row's instruction holds of the one found. -/
theorem pickRow_forall (P : Instr → Prop) (rng : Nibble) (rows : List (RangeRow × Instr)) (i : Instr)
    (h : pickRow rng rows = .ok i) (hall : ∀ r ∈ rows, P r.2) : P i := by
  obtain ⟨row, hm, -⟩ := pickRow_ok rng rows i h
  exact hall _ hm

/-- The row of function `f` carries the payload it was selected with (R69). -/
theorem rowInstr_payload (c : Cfg) (f : Func) (rng : Nibble) (p : Payload) (i : Instr)
    (h : rowInstr c f rng p = .ok i) : i.payload? = some p := by
  cases f <;> simp only [rowInstr] at h
  all_goals first
    | (cases h; rfl)
    | exact pickRow_forall (fun j => j.payload? = some p) _ _ _ h (by simp [Instr.payload?])

/-- A frame that decodes passed the Validator and selects a row (R81). -/
theorem decodeFrame_ok (c : Cfg) (F : Frame) (i : Instr) :
    decodeFrame c F = .ok i ↔ validate c F = none ∧ selectRow c F = .ok i := by
  unfold decodeFrame
  cases validate c F <;> simp

/-- The range step of a frame that decodes: the function, the nibble, the row (R140). -/
theorem selectRow_ok (c : Cfg) (F : Frame) (i : Instr) (h : selectRow c F = .ok i) :
    ∃ f, c.funcOf (loNib F[5]) = some f ∧
      ¬ (hiNib F[0] ≠ nibHi ∧ (c.rangeNibbleAlways = true ∨ f.hasRanges = true)) ∧
      rowInstr c f (loNib F[0]) (framePayload F) = .ok i := by
  unfold selectRow at h
  split at h
  · simp at h
  · rename_i f hf
    split at h
    · simp at h
    · exact ⟨f, hf, by assumption, h⟩

/-- A decoded frame's instruction carries the frame's digits and flag nibbles (R62). -/
theorem decodeFrame_payload (c : Cfg) (F : Frame) (i : Instr) (h : decodeFrame c F = .ok i) :
    i.payload? = some (framePayload F) := by
  obtain ⟨f, -, -, hr⟩ := selectRow_ok c F i ((decodeFrame_ok c F i).1 h).2
  exact rowInstr_payload c f _ _ i hr

/-- The Validator reports one of four causes (R120). -/
theorem validate_cause (c : Cfg) (F : Frame) (e : Cause) (h : validate c F = some e) :
    e = .invalidDigits ∨ e = .invalidFunction ∨ e = .invalidStatusOption ∨ e = .invalidTerminator := by
  unfold validate at h
  repeat' split at h
  all_goals simp_all

/-- A bad frame has one of the five causes of R81. -/
theorem decodeFrame_cause (c : Cfg) (F : Frame) (e : Cause) (h : decodeFrame c F = .error e) :
    e ≠ .none ∧ e ≠ .notSynced := by
  unfold decodeFrame at h
  split at h
  · rename_i e' he
    cases h
    rcases validate_cause c F _ he with rfl | rfl | rfl | rfl <;> simp
  · unfold selectRow at h
    split at h
    · cases h; simp
    · split at h
      · cases h; simp
      · rename_i f _ _
        cases f <;> simp only [rowInstr] at h
        all_goals first
          | (have := pickRow_error _ _ _ h; subst this; simp)
          | cases h

/-- A function found by its code has that code (R64). -/
theorem Cfg.funcOf_some (c : Cfg) (n : Nibble) (f : Func) (h : c.funcOf n = some f) : c.code f = n := by
  have := List.find?_some h
  simpa using this

/-- No function is found exactly when none has the code (R64). -/
theorem Cfg.funcOf_none (c : Cfg) (n : Nibble) : c.funcOf n = none ↔ ∀ f, c.code f ≠ n := by
  simp [Cfg.funcOf, Func.mem_all]

end Sys2Proof

namespace Sys2Proof.Machine

/-- The values a decode row can have: the sentinel, the digits as a decimal, or zero (R140). -/
def RowVal (p : Payload) (v : Val) : Prop :=
  v = .sent ∨ (∃ e, v = .dec false (mantOf p) e) ∨ v = .dec false 0 0

/-- What a decode row does, said once: it completes the frame with its function and a value of the digits (R140, R206). -/
theorem exec_row (i : Instr) (p : Payload) (h : i.payload? = some p) (s : State) :
    ∃ f v, exec i s = completeFrame f v p s ∧ RowVal p v := by
  cases i <;> simp only [Instr.payload?, Option.some.injEq, reduceCtorEq] at h <;> subst h
  case curMan rng p => exact ⟨_, _, rfl, .inr (.inr rfl)⟩
  case temp rng p => exact ⟨_, _, rfl, .inr (.inr rfl)⟩
  case adp0 rng p =>
    refine ⟨_, _, rfl, ?_⟩
    cases s.board
    · exact .inl rfl
    · exact .inr (.inl ⟨_, rfl⟩)
  case adp1 rng p =>
    refine ⟨_, _, rfl, ?_⟩
    cases s.board
    · exact .inl rfl
    · exact .inr (.inl ⟨_, rfl⟩)
  case adp2 rng p => exact ⟨_, _, rfl, .inl rfl⟩
  case adp3 rng p => exact ⟨_, _, rfl, .inl rfl⟩
  all_goals exact ⟨_, _, rfl, .inr (.inl ⟨_, rfl⟩)⟩

end Sys2Proof.Machine
end

