-- ==== Sys2Proof/Laws/State.lean ====
section
/-! SUPPORT. What each update of the state does to each field: true by definition, so that no proof unfolds a record
update. -/

namespace Sys2Proof.Machine

/-! ### `observe` -/

@[simp] theorem State.observe_cfg (s : State) (t : Turn) (rest : List Turn) : (s.observe t rest).cfg = s.cfg := rfl
@[simp] theorem State.observe_x (s : State) (t : Turn) (rest : List Turn) : (s.observe t rest).x = s.x := rfl
@[simp] theorem State.observe_cnt (s : State) (t : Turn) (rest : List Turn) : (s.observe t rest).cnt = s.cnt := rfl
@[simp] theorem State.observe_synced (s : State) (t : Turn) (rest : List Turn) : (s.observe t rest).synced = s.synced := rfl
@[simp] theorem State.observe_opened (s : State) (t : Turn) (rest : List Turn) : (s.observe t rest).opened = s.opened := rfl
@[simp] theorem State.observe_failed (s : State) (t : Turn) (rest : List Turn) : (s.observe t rest).failed = s.failed := rfl
@[simp] theorem State.observe_board (s : State) (t : Turn) (rest : List Turn) : (s.observe t rest).board = s.board := rfl
@[simp] theorem State.observe_t0 (s : State) (t : Turn) (rest : List Turn) : (s.observe t rest).t0 = s.t0 := rfl
@[simp] theorem State.observe_prevCr (s : State) (t : Turn) (rest : List Turn) : (s.observe t rest).prevCr = s.prevCr := rfl
@[simp] theorem State.observe_rValid (s : State) (t : Turn) (rest : List Turn) : (s.observe t rest).rValid = s.rValid := rfl
@[simp] theorem State.observe_rCode (s : State) (t : Turn) (rest : List Turn) : (s.observe t rest).rCode = s.rCode := rfl
@[simp] theorem State.observe_rCause (s : State) (t : Turn) (rest : List Turn) : (s.observe t rest).rCause = s.rCause := rfl
@[simp] theorem State.observe_sample (s : State) (t : Turn) (rest : List Turn) : (s.observe t rest).sample = s.sample := rfl
@[simp] theorem State.observe_phase (s : State) (t : Turn) (rest : List Turn) : (s.observe t rest).phase = s.phase := rfl
@[simp] theorem State.observe_q (s : State) (t : Turn) (rest : List Turn) : (s.observe t rest).q = s.q ++ t.arrive := rfl
@[simp] theorem State.observe_link (s : State) (t : Turn) (rest : List Turn) : (s.observe t rest).link = s.link := rfl
@[simp] theorem State.observe_now (s : State) (t : Turn) (rest : List Turn) : (s.observe t rest).now = t.now := rfl
@[simp] theorem State.observe_tape (s : State) (t : Turn) (rest : List Turn) : (s.observe t rest).tape = rest := rfl

/-! ### `polled` -/

@[simp] theorem State.polled_cfg (s : State) (n : Nat) (rx : RxAnswer) : (s.polled n rx).cfg = s.cfg := rfl
@[simp] theorem State.polled_x (s : State) (n : Nat) (rx : RxAnswer) : (s.polled n rx).x = s.x := rfl
@[simp] theorem State.polled_cnt (s : State) (n : Nat) (rx : RxAnswer) : (s.polled n rx).cnt = s.cnt := rfl
@[simp] theorem State.polled_synced (s : State) (n : Nat) (rx : RxAnswer) : (s.polled n rx).synced = s.synced := rfl
@[simp] theorem State.polled_opened (s : State) (n : Nat) (rx : RxAnswer) : (s.polled n rx).opened = s.opened := rfl
@[simp] theorem State.polled_failed (s : State) (n : Nat) (rx : RxAnswer) : (s.polled n rx).failed = s.failed := rfl
@[simp] theorem State.polled_board (s : State) (n : Nat) (rx : RxAnswer) : (s.polled n rx).board = s.board := rfl
@[simp] theorem State.polled_t0 (s : State) (n : Nat) (rx : RxAnswer) : (s.polled n rx).t0 = s.t0 := rfl
@[simp] theorem State.polled_prevCr (s : State) (n : Nat) (rx : RxAnswer) : (s.polled n rx).prevCr = s.prevCr := rfl
@[simp] theorem State.polled_rValid (s : State) (n : Nat) (rx : RxAnswer) : (s.polled n rx).rValid = s.rValid := rfl
@[simp] theorem State.polled_rCode (s : State) (n : Nat) (rx : RxAnswer) : (s.polled n rx).rCode = s.rCode := rfl
@[simp] theorem State.polled_rCause (s : State) (n : Nat) (rx : RxAnswer) : (s.polled n rx).rCause = s.rCause := rfl
@[simp] theorem State.polled_sample (s : State) (n : Nat) (rx : RxAnswer) : (s.polled n rx).sample = s.sample := rfl
@[simp] theorem State.polled_phase (s : State) (n : Nat) (rx : RxAnswer) : (s.polled n rx).phase = s.phase := rfl
@[simp] theorem State.polled_q (s : State) (n : Nat) (rx : RxAnswer) : (s.polled n rx).q = pollRest n rx s.q := rfl
@[simp] theorem State.polled_link (s : State) (n : Nat) (rx : RxAnswer) : (s.polled n rx).link = s.link := rfl
@[simp] theorem State.polled_now (s : State) (n : Nat) (rx : RxAnswer) : (s.polled n rx).now = s.now := rfl
@[simp] theorem State.polled_tape (s : State) (n : Nat) (rx : RxAnswer) : (s.polled n rx).tape = s.tape := rfl

/-! ### `rxFlush` -/

@[simp] theorem State.rxFlush_cfg (s : State) : (s.rxFlush).cfg = s.cfg := rfl
@[simp] theorem State.rxFlush_x (s : State) : (s.rxFlush).x = s.x := rfl
@[simp] theorem State.rxFlush_cnt (s : State) : (s.rxFlush).cnt = s.cnt := rfl
@[simp] theorem State.rxFlush_synced (s : State) : (s.rxFlush).synced = s.synced := rfl
@[simp] theorem State.rxFlush_opened (s : State) : (s.rxFlush).opened = s.opened := rfl
@[simp] theorem State.rxFlush_failed (s : State) : (s.rxFlush).failed = s.failed := rfl
@[simp] theorem State.rxFlush_board (s : State) : (s.rxFlush).board = s.board := rfl
@[simp] theorem State.rxFlush_t0 (s : State) : (s.rxFlush).t0 = s.t0 := rfl
@[simp] theorem State.rxFlush_prevCr (s : State) : (s.rxFlush).prevCr = s.prevCr := rfl
@[simp] theorem State.rxFlush_rValid (s : State) : (s.rxFlush).rValid = s.rValid := rfl
@[simp] theorem State.rxFlush_rCode (s : State) : (s.rxFlush).rCode = s.rCode := rfl
@[simp] theorem State.rxFlush_rCause (s : State) : (s.rxFlush).rCause = s.rCause := rfl
@[simp] theorem State.rxFlush_sample (s : State) : (s.rxFlush).sample = s.sample := rfl
@[simp] theorem State.rxFlush_phase (s : State) : (s.rxFlush).phase = s.phase := rfl
@[simp] theorem State.rxFlush_q (s : State) : (s.rxFlush).q = [] := rfl
@[simp] theorem State.rxFlush_link (s : State) : (s.rxFlush).link = s.link := rfl
@[simp] theorem State.rxFlush_now (s : State) : (s.rxFlush).now = s.now := rfl
@[simp] theorem State.rxFlush_tape (s : State) : (s.rxFlush).tape = s.tape := rfl

/-! ### `tClose` -/

@[simp] theorem State.tClose_cfg (s : State) : (s.tClose).cfg = s.cfg := rfl
@[simp] theorem State.tClose_x (s : State) : (s.tClose).x = s.x := rfl
@[simp] theorem State.tClose_cnt (s : State) : (s.tClose).cnt = s.cnt := rfl
@[simp] theorem State.tClose_synced (s : State) : (s.tClose).synced = s.synced := rfl
@[simp] theorem State.tClose_opened (s : State) : (s.tClose).opened = s.opened := rfl
@[simp] theorem State.tClose_failed (s : State) : (s.tClose).failed = s.failed := rfl
@[simp] theorem State.tClose_board (s : State) : (s.tClose).board = s.board := rfl
@[simp] theorem State.tClose_t0 (s : State) : (s.tClose).t0 = s.t0 := rfl
@[simp] theorem State.tClose_prevCr (s : State) : (s.tClose).prevCr = s.prevCr := rfl
@[simp] theorem State.tClose_rValid (s : State) : (s.tClose).rValid = s.rValid := rfl
@[simp] theorem State.tClose_rCode (s : State) : (s.tClose).rCode = s.rCode := rfl
@[simp] theorem State.tClose_rCause (s : State) : (s.tClose).rCause = s.rCause := rfl
@[simp] theorem State.tClose_sample (s : State) : (s.tClose).sample = s.sample := rfl
@[simp] theorem State.tClose_phase (s : State) : (s.tClose).phase = s.phase := rfl
@[simp] theorem State.tClose_q (s : State) : (s.tClose).q = s.q := rfl
@[simp] theorem State.tClose_link (s : State) : (s.tClose).link = false := rfl
@[simp] theorem State.tClose_now (s : State) : (s.tClose).now = s.now := rfl
@[simp] theorem State.tClose_tape (s : State) : (s.tClose).tape = s.tape := rfl

/-! ### `tOpened` -/

@[simp] theorem State.tOpened_cfg (s : State) (q0 : List Byte) : (s.tOpened q0).cfg = s.cfg := rfl
@[simp] theorem State.tOpened_x (s : State) (q0 : List Byte) : (s.tOpened q0).x = s.x := rfl
@[simp] theorem State.tOpened_cnt (s : State) (q0 : List Byte) : (s.tOpened q0).cnt = s.cnt := rfl
@[simp] theorem State.tOpened_synced (s : State) (q0 : List Byte) : (s.tOpened q0).synced = s.synced := rfl
@[simp] theorem State.tOpened_opened (s : State) (q0 : List Byte) : (s.tOpened q0).opened = s.opened := rfl
@[simp] theorem State.tOpened_failed (s : State) (q0 : List Byte) : (s.tOpened q0).failed = s.failed := rfl
@[simp] theorem State.tOpened_board (s : State) (q0 : List Byte) : (s.tOpened q0).board = s.board := rfl
@[simp] theorem State.tOpened_t0 (s : State) (q0 : List Byte) : (s.tOpened q0).t0 = s.t0 := rfl
@[simp] theorem State.tOpened_prevCr (s : State) (q0 : List Byte) : (s.tOpened q0).prevCr = s.prevCr := rfl
@[simp] theorem State.tOpened_rValid (s : State) (q0 : List Byte) : (s.tOpened q0).rValid = s.rValid := rfl
@[simp] theorem State.tOpened_rCode (s : State) (q0 : List Byte) : (s.tOpened q0).rCode = s.rCode := rfl
@[simp] theorem State.tOpened_rCause (s : State) (q0 : List Byte) : (s.tOpened q0).rCause = s.rCause := rfl
@[simp] theorem State.tOpened_sample (s : State) (q0 : List Byte) : (s.tOpened q0).sample = s.sample := rfl
@[simp] theorem State.tOpened_phase (s : State) (q0 : List Byte) : (s.tOpened q0).phase = s.phase := rfl
@[simp] theorem State.tOpened_q (s : State) (q0 : List Byte) : (s.tOpened q0).q = q0 := rfl
@[simp] theorem State.tOpened_link (s : State) (q0 : List Byte) : (s.tOpened q0).link = true := rfl
@[simp] theorem State.tOpened_now (s : State) (q0 : List Byte) : (s.tOpened q0).now = s.now := rfl
@[simp] theorem State.tOpened_tape (s : State) (q0 : List Byte) : (s.tOpened q0).tape = s.tape := rfl

/-! ### `respond` -/

@[simp] theorem State.respond_cfg (s : State) (c : RespCode) (e : Cause) (S : Sample) : (s.respond c e S).cfg = s.cfg := rfl
@[simp] theorem State.respond_x (s : State) (c : RespCode) (e : Cause) (S : Sample) : (s.respond c e S).x = s.x := rfl
@[simp] theorem State.respond_cnt (s : State) (c : RespCode) (e : Cause) (S : Sample) : (s.respond c e S).cnt = s.cnt := rfl
@[simp] theorem State.respond_synced (s : State) (c : RespCode) (e : Cause) (S : Sample) : (s.respond c e S).synced = s.synced := rfl
@[simp] theorem State.respond_opened (s : State) (c : RespCode) (e : Cause) (S : Sample) : (s.respond c e S).opened = s.opened := rfl
@[simp] theorem State.respond_failed (s : State) (c : RespCode) (e : Cause) (S : Sample) : (s.respond c e S).failed = s.failed := rfl
@[simp] theorem State.respond_board (s : State) (c : RespCode) (e : Cause) (S : Sample) : (s.respond c e S).board = s.board := rfl
@[simp] theorem State.respond_t0 (s : State) (c : RespCode) (e : Cause) (S : Sample) : (s.respond c e S).t0 = s.t0 := rfl
@[simp] theorem State.respond_prevCr (s : State) (c : RespCode) (e : Cause) (S : Sample) : (s.respond c e S).prevCr = s.prevCr := rfl
@[simp] theorem State.respond_rValid (s : State) (c : RespCode) (e : Cause) (S : Sample) : (s.respond c e S).rValid = true := rfl
@[simp] theorem State.respond_rCode (s : State) (c : RespCode) (e : Cause) (S : Sample) : (s.respond c e S).rCode = c := rfl
@[simp] theorem State.respond_rCause (s : State) (c : RespCode) (e : Cause) (S : Sample) : (s.respond c e S).rCause = e := rfl
@[simp] theorem State.respond_sample (s : State) (c : RespCode) (e : Cause) (S : Sample) : (s.respond c e S).sample = S := rfl
@[simp] theorem State.respond_phase (s : State) (c : RespCode) (e : Cause) (S : Sample) : (s.respond c e S).phase = .idle := rfl
@[simp] theorem State.respond_q (s : State) (c : RespCode) (e : Cause) (S : Sample) : (s.respond c e S).q = s.q := rfl
@[simp] theorem State.respond_link (s : State) (c : RespCode) (e : Cause) (S : Sample) : (s.respond c e S).link = s.link := rfl
@[simp] theorem State.respond_now (s : State) (c : RespCode) (e : Cause) (S : Sample) : (s.respond c e S).now = s.now := rfl
@[simp] theorem State.respond_tape (s : State) (c : RespCode) (e : Cause) (S : Sample) : (s.respond c e S).tape = s.tape := rfl

/-! ### `respondOk` -/

@[simp] theorem State.respondOk_cfg (s : State) : (s.respondOk).cfg = s.cfg := rfl
@[simp] theorem State.respondOk_x (s : State) : (s.respondOk).x = s.x := rfl
@[simp] theorem State.respondOk_cnt (s : State) : (s.respondOk).cnt = s.cnt := rfl
@[simp] theorem State.respondOk_synced (s : State) : (s.respondOk).synced = s.synced := rfl
@[simp] theorem State.respondOk_opened (s : State) : (s.respondOk).opened = s.opened := rfl
@[simp] theorem State.respondOk_failed (s : State) : (s.respondOk).failed = s.failed := rfl
@[simp] theorem State.respondOk_board (s : State) : (s.respondOk).board = s.board := rfl
@[simp] theorem State.respondOk_t0 (s : State) : (s.respondOk).t0 = s.t0 := rfl
@[simp] theorem State.respondOk_prevCr (s : State) : (s.respondOk).prevCr = s.prevCr := rfl
@[simp] theorem State.respondOk_rValid (s : State) : (s.respondOk).rValid = true := rfl
@[simp] theorem State.respondOk_rCode (s : State) : (s.respondOk).rCode = .ok := rfl
@[simp] theorem State.respondOk_rCause (s : State) : (s.respondOk).rCause = .none := rfl
@[simp] theorem State.respondOk_sample (s : State) : (s.respondOk).sample = Sample.zero := rfl
@[simp] theorem State.respondOk_phase (s : State) : (s.respondOk).phase = .idle := rfl
@[simp] theorem State.respondOk_q (s : State) : (s.respondOk).q = s.q := rfl
@[simp] theorem State.respondOk_link (s : State) : (s.respondOk).link = s.link := rfl
@[simp] theorem State.respondOk_now (s : State) : (s.respondOk).now = s.now := rfl
@[simp] theorem State.respondOk_tape (s : State) : (s.respondOk).tape = s.tape := rfl

/-! ### `resynced` -/

@[simp] theorem State.resynced_cfg (s : State) : (s.resynced).cfg = s.cfg := rfl
@[simp] theorem State.resynced_x (s : State) : (s.resynced).x = s.x := rfl
@[simp] theorem State.resynced_cnt (s : State) : (s.resynced).cnt = 0 := rfl
@[simp] theorem State.resynced_synced (s : State) : (s.resynced).synced = true := rfl
@[simp] theorem State.resynced_opened (s : State) : (s.resynced).opened = s.opened := rfl
@[simp] theorem State.resynced_failed (s : State) : (s.resynced).failed = s.failed := rfl
@[simp] theorem State.resynced_board (s : State) : (s.resynced).board = s.board := rfl
@[simp] theorem State.resynced_t0 (s : State) : (s.resynced).t0 = s.t0 := rfl
@[simp] theorem State.resynced_prevCr (s : State) : (s.resynced).prevCr = s.prevCr := rfl
@[simp] theorem State.resynced_rValid (s : State) : (s.resynced).rValid = true := rfl
@[simp] theorem State.resynced_rCode (s : State) : (s.resynced).rCode = .ok := rfl
@[simp] theorem State.resynced_rCause (s : State) : (s.resynced).rCause = .none := rfl
@[simp] theorem State.resynced_sample (s : State) : (s.resynced).sample = Sample.zero := rfl
@[simp] theorem State.resynced_phase (s : State) : (s.resynced).phase = .idle := rfl
@[simp] theorem State.resynced_q (s : State) : (s.resynced).q = s.q := rfl
@[simp] theorem State.resynced_link (s : State) : (s.resynced).link = s.link := rfl
@[simp] theorem State.resynced_now (s : State) : (s.resynced).now = s.now := rfl
@[simp] theorem State.resynced_tape (s : State) : (s.resynced).tape = s.tape := rfl

/-! ### `append` -/

@[simp] theorem State.append_cfg (s : State) (bs : List Byte) : (s.append bs).cfg = s.cfg := rfl
@[simp] theorem State.append_x (s : State) (bs : List Byte) : (s.append bs).x = writeBytes s.x s.cnt.toNat bs := rfl
@[simp] theorem State.append_cnt (s : State) (bs : List Byte) : (s.append bs).cnt = s.cnt + BitVec.ofNat 4 bs.length := rfl
@[simp] theorem State.append_synced (s : State) (bs : List Byte) : (s.append bs).synced = s.synced := rfl
@[simp] theorem State.append_opened (s : State) (bs : List Byte) : (s.append bs).opened = s.opened := rfl
@[simp] theorem State.append_failed (s : State) (bs : List Byte) : (s.append bs).failed = s.failed := rfl
@[simp] theorem State.append_board (s : State) (bs : List Byte) : (s.append bs).board = s.board := rfl
@[simp] theorem State.append_t0 (s : State) (bs : List Byte) : (s.append bs).t0 = s.t0 := rfl
@[simp] theorem State.append_prevCr (s : State) (bs : List Byte) : (s.append bs).prevCr = s.prevCr := rfl
@[simp] theorem State.append_rValid (s : State) (bs : List Byte) : (s.append bs).rValid = s.rValid := rfl
@[simp] theorem State.append_rCode (s : State) (bs : List Byte) : (s.append bs).rCode = s.rCode := rfl
@[simp] theorem State.append_rCause (s : State) (bs : List Byte) : (s.append bs).rCause = s.rCause := rfl
@[simp] theorem State.append_sample (s : State) (bs : List Byte) : (s.append bs).sample = s.sample := rfl
@[simp] theorem State.append_phase (s : State) (bs : List Byte) : (s.append bs).phase = s.phase := rfl
@[simp] theorem State.append_q (s : State) (bs : List Byte) : (s.append bs).q = s.q := rfl
@[simp] theorem State.append_link (s : State) (bs : List Byte) : (s.append bs).link = s.link := rfl
@[simp] theorem State.append_now (s : State) (bs : List Byte) : (s.append bs).now = s.now := rfl
@[simp] theorem State.append_tape (s : State) (bs : List Byte) : (s.append bs).tape = s.tape := rfl

/-! ### `startSync` -/

@[simp] theorem State.startSync_cfg (s : State) : (s.startSync).cfg = s.cfg := rfl
@[simp] theorem State.startSync_x (s : State) : (s.startSync).x = s.x := rfl
@[simp] theorem State.startSync_cnt (s : State) : (s.startSync).cnt = 0 := rfl
@[simp] theorem State.startSync_synced (s : State) : (s.startSync).synced = false := rfl
@[simp] theorem State.startSync_opened (s : State) : (s.startSync).opened = s.opened := rfl
@[simp] theorem State.startSync_failed (s : State) : (s.startSync).failed = s.failed := rfl
@[simp] theorem State.startSync_board (s : State) : (s.startSync).board = s.board := rfl
@[simp] theorem State.startSync_t0 (s : State) : (s.startSync).t0 = s.now := rfl
@[simp] theorem State.startSync_prevCr (s : State) : (s.startSync).prevCr = false := rfl
@[simp] theorem State.startSync_rValid (s : State) : (s.startSync).rValid = s.rValid := rfl
@[simp] theorem State.startSync_rCode (s : State) : (s.startSync).rCode = s.rCode := rfl
@[simp] theorem State.startSync_rCause (s : State) : (s.startSync).rCause = s.rCause := rfl
@[simp] theorem State.startSync_sample (s : State) : (s.startSync).sample = s.sample := rfl
@[simp] theorem State.startSync_phase (s : State) : (s.startSync).phase = .scanning := rfl
@[simp] theorem State.startSync_q (s : State) : (s.startSync).q = [] := rfl
@[simp] theorem State.startSync_link (s : State) : (s.startSync).link = s.link := rfl
@[simp] theorem State.startSync_now (s : State) : (s.startSync).now = s.now := rfl
@[simp] theorem State.startSync_tape (s : State) : (s.startSync).tape = s.tape := rfl

/-! ### `withAnswer` -/

@[simp] theorem State.withAnswer_cfg (s : State) (S : Sample) : (s.withAnswer S).cfg = s.cfg := rfl
@[simp] theorem State.withAnswer_x (s : State) (S : Sample) : (s.withAnswer S).x = s.x := rfl
@[simp] theorem State.withAnswer_cnt (s : State) (S : Sample) : (s.withAnswer S).cnt = s.cnt := rfl
@[simp] theorem State.withAnswer_synced (s : State) (S : Sample) : (s.withAnswer S).synced = s.synced := rfl
@[simp] theorem State.withAnswer_opened (s : State) (S : Sample) : (s.withAnswer S).opened = s.opened := rfl
@[simp] theorem State.withAnswer_failed (s : State) (S : Sample) : (s.withAnswer S).failed = s.failed := rfl
@[simp] theorem State.withAnswer_board (s : State) (S : Sample) : (s.withAnswer S).board = s.board := rfl
@[simp] theorem State.withAnswer_t0 (s : State) (S : Sample) : (s.withAnswer S).t0 = s.t0 := rfl
@[simp] theorem State.withAnswer_prevCr (s : State) (S : Sample) : (s.withAnswer S).prevCr = s.prevCr := rfl
@[simp] theorem State.withAnswer_rValid (s : State) (S : Sample) : (s.withAnswer S).rValid = true := rfl
@[simp] theorem State.withAnswer_rCode (s : State) (S : Sample) : (s.withAnswer S).rCode = .ok := rfl
@[simp] theorem State.withAnswer_rCause (s : State) (S : Sample) : (s.withAnswer S).rCause = .none := rfl
@[simp] theorem State.withAnswer_sample (s : State) (S : Sample) : (s.withAnswer S).sample = S := rfl
@[simp] theorem State.withAnswer_phase (s : State) (S : Sample) : (s.withAnswer S).phase = .idle := rfl
@[simp] theorem State.withAnswer_q (s : State) (S : Sample) : (s.withAnswer S).q = s.q := rfl
@[simp] theorem State.withAnswer_link (s : State) (S : Sample) : (s.withAnswer S).link = s.link := rfl
@[simp] theorem State.withAnswer_now (s : State) (S : Sample) : (s.withAnswer S).now = s.now := rfl
@[simp] theorem State.withAnswer_tape (s : State) (S : Sample) : (s.withAnswer S).tape = s.tape := rfl

/-! ### `withError` -/

@[simp] theorem State.withError_cfg (s : State) (c : RespCode) (e : Cause) : (s.withError c e).cfg = s.cfg := rfl
@[simp] theorem State.withError_x (s : State) (c : RespCode) (e : Cause) : (s.withError c e).x = s.x := rfl
@[simp] theorem State.withError_cnt (s : State) (c : RespCode) (e : Cause) : (s.withError c e).cnt = s.cnt := rfl
@[simp] theorem State.withError_synced (s : State) (c : RespCode) (e : Cause) : (s.withError c e).synced = s.synced := rfl
@[simp] theorem State.withError_opened (s : State) (c : RespCode) (e : Cause) : (s.withError c e).opened = s.opened := rfl
@[simp] theorem State.withError_failed (s : State) (c : RespCode) (e : Cause) : (s.withError c e).failed = s.failed := rfl
@[simp] theorem State.withError_board (s : State) (c : RespCode) (e : Cause) : (s.withError c e).board = s.board := rfl
@[simp] theorem State.withError_t0 (s : State) (c : RespCode) (e : Cause) : (s.withError c e).t0 = s.t0 := rfl
@[simp] theorem State.withError_prevCr (s : State) (c : RespCode) (e : Cause) : (s.withError c e).prevCr = s.prevCr := rfl
@[simp] theorem State.withError_rValid (s : State) (c : RespCode) (e : Cause) : (s.withError c e).rValid = true := rfl
@[simp] theorem State.withError_rCode (s : State) (c : RespCode) (e : Cause) : (s.withError c e).rCode = c := rfl
@[simp] theorem State.withError_rCause (s : State) (c : RespCode) (e : Cause) : (s.withError c e).rCause = e := rfl
@[simp] theorem State.withError_sample (s : State) (c : RespCode) (e : Cause) : (s.withError c e).sample = Sample.zero := rfl
@[simp] theorem State.withError_phase (s : State) (c : RespCode) (e : Cause) : (s.withError c e).phase = .idle := rfl
@[simp] theorem State.withError_q (s : State) (c : RespCode) (e : Cause) : (s.withError c e).q = s.q := rfl
@[simp] theorem State.withError_link (s : State) (c : RespCode) (e : Cause) : (s.withError c e).link = s.link := rfl
@[simp] theorem State.withError_now (s : State) (c : RespCode) (e : Cause) : (s.withError c e).now = s.now := rfl
@[simp] theorem State.withError_tape (s : State) (c : RespCode) (e : Cause) : (s.withError c e).tape = s.tape := rfl

/-! ### `blockReset` -/

@[simp] theorem State.blockReset_cfg (s : State) : s.blockReset.cfg = s.cfg := rfl
@[simp] theorem State.blockReset_x (s : State) : s.blockReset.x = State.reset.x := rfl
@[simp] theorem State.blockReset_cnt (s : State) : s.blockReset.cnt = 0 := rfl
@[simp] theorem State.blockReset_synced (s : State) : s.blockReset.synced = false := rfl
@[simp] theorem State.blockReset_opened (s : State) : s.blockReset.opened = false := rfl
@[simp] theorem State.blockReset_failed (s : State) : s.blockReset.failed = false := rfl
@[simp] theorem State.blockReset_board (s : State) : s.blockReset.board = .unknown := rfl
@[simp] theorem State.blockReset_t0 (s : State) : s.blockReset.t0 = 0 := rfl
@[simp] theorem State.blockReset_prevCr (s : State) : s.blockReset.prevCr = false := rfl
@[simp] theorem State.blockReset_rValid (s : State) : s.blockReset.rValid = false := rfl
@[simp] theorem State.blockReset_rCode (s : State) : s.blockReset.rCode = .ok := rfl
@[simp] theorem State.blockReset_rCause (s : State) : s.blockReset.rCause = .none := rfl
@[simp] theorem State.blockReset_sample (s : State) : s.blockReset.sample = Sample.zero := rfl
@[simp] theorem State.blockReset_phase (s : State) : s.blockReset.phase = .idle := rfl
@[simp] theorem State.blockReset_q (s : State) : s.blockReset.q = s.q := rfl
@[simp] theorem State.blockReset_link (s : State) : s.blockReset.link = s.link := rfl
@[simp] theorem State.blockReset_now (s : State) : s.blockReset.now = s.now := rfl
@[simp] theorem State.blockReset_tape (s : State) : s.blockReset.tape = s.tape := rfl

/-! ### `startInit` -/

@[simp] theorem State.startInit_cfg (s : State) (b : Board) : (s.startInit b).cfg = s.cfg := rfl
@[simp] theorem State.startInit_x (s : State) (b : Board) : (s.startInit b).x = State.reset.x := rfl
@[simp] theorem State.startInit_cnt (s : State) (b : Board) : (s.startInit b).cnt = 0 := rfl
@[simp] theorem State.startInit_synced (s : State) (b : Board) : (s.startInit b).synced = false := rfl
@[simp] theorem State.startInit_opened (s : State) (b : Board) : (s.startInit b).opened = false := rfl
@[simp] theorem State.startInit_failed (s : State) (b : Board) : (s.startInit b).failed = false := rfl
@[simp] theorem State.startInit_board (s : State) (b : Board) : (s.startInit b).board = .unknown := rfl
@[simp] theorem State.startInit_t0 (s : State) (b : Board) : (s.startInit b).t0 = 0 := rfl
@[simp] theorem State.startInit_prevCr (s : State) (b : Board) : (s.startInit b).prevCr = false := rfl
@[simp] theorem State.startInit_rValid (s : State) (b : Board) : (s.startInit b).rValid = false := rfl
@[simp] theorem State.startInit_rCode (s : State) (b : Board) : (s.startInit b).rCode = s.rCode := rfl
@[simp] theorem State.startInit_rCause (s : State) (b : Board) : (s.startInit b).rCause = s.rCause := rfl
@[simp] theorem State.startInit_sample (s : State) (b : Board) : (s.startInit b).sample = s.sample := rfl
@[simp] theorem State.startInit_phase (s : State) (b : Board) : (s.startInit b).phase = .opening b := rfl
@[simp] theorem State.startInit_q (s : State) (b : Board) : (s.startInit b).q = s.q := rfl
@[simp] theorem State.startInit_link (s : State) (b : Board) : (s.startInit b).link = s.link := rfl
@[simp] theorem State.startInit_now (s : State) (b : Board) : (s.startInit b).now = s.now := rfl
@[simp] theorem State.startInit_tape (s : State) (b : Board) : (s.startInit b).tape = s.tape := rfl

/-! ### `raise` -/

@[simp] theorem State.raise_cfg (s : State) (e : Err) : (s.raise e).cfg = s.cfg := by
  cases e with
  | lostSync c => cases c <;> rfl
  | _ => rfl
@[simp] theorem State.raise_x (s : State) (e : Err) : (s.raise e).x = s.x := by
  cases e with
  | lostSync c => cases c <;> rfl
  | _ => rfl
@[simp] theorem State.raise_cnt (s : State) (e : Err) : (s.raise e).cnt = s.cnt := by
  cases e with
  | lostSync c => cases c <;> rfl
  | _ => rfl
theorem State.raise_lostSync_synced (s : State) (c : Cause) (h : c ≠ .notSynced) :
    (s.raise (.lostSync c)).synced = false := by
  simp [State.raise, Err.effect, h]
@[simp] theorem State.raise_notSynced (s : State) :
    s.raise (.lostSync .notSynced) = s.withError .lostSync .notSynced := rfl
@[simp] theorem State.raise_opened (s : State) (e : Err) : (s.raise e).opened = s.opened := by
  cases e with
  | lostSync c => cases c <;> rfl
  | _ => rfl
@[simp] theorem State.raise_transportFailure_failed (s : State) : (s.raise .transportFailure).failed = true := rfl
@[simp] theorem State.raise_board (s : State) (e : Err) : (s.raise e).board = s.board := by
  cases e with
  | lostSync c => cases c <;> rfl
  | _ => rfl
@[simp] theorem State.raise_t0 (s : State) (e : Err) : (s.raise e).t0 = s.t0 := by
  cases e with
  | lostSync c => cases c <;> rfl
  | _ => rfl
@[simp] theorem State.raise_prevCr (s : State) (e : Err) : (s.raise e).prevCr = s.prevCr := by
  cases e with
  | lostSync c => cases c <;> rfl
  | _ => rfl
@[simp] theorem State.raise_rValid (s : State) (e : Err) : (s.raise e).rValid = true := rfl
@[simp] theorem State.raise_rCode (s : State) (e : Err) : (s.raise e).rCode = e.code := rfl
@[simp] theorem State.raise_rCause (s : State) (e : Err) : (s.raise e).rCause = e.cause := rfl
@[simp] theorem State.raise_sample (s : State) (e : Err) : (s.raise e).sample = Sample.zero := rfl
@[simp] theorem State.raise_phase (s : State) (e : Err) : (s.raise e).phase = .idle := rfl
@[simp] theorem State.raise_q (s : State) (e : Err) : (s.raise e).q = s.q := by
  cases e with
  | lostSync c => cases c <;> rfl
  | _ => rfl
@[simp] theorem State.raise_link (s : State) (e : Err) : (s.raise e).link = s.link := by
  cases e with
  | lostSync c => cases c <;> rfl
  | _ => rfl
@[simp] theorem State.raise_now (s : State) (e : Err) : (s.raise e).now = s.now := by
  cases e with
  | lostSync c => cases c <;> rfl
  | _ => rfl
@[simp] theorem State.raise_tape (s : State) (e : Err) : (s.raise e).tape = s.tape := by
  cases e with
  | lostSync c => cases c <;> rfl
  | _ => rfl
@[simp] theorem State.raise_wouldBlock (s : State) : s.raise .wouldBlock = s.withError .wouldBlock .none := rfl
@[simp] theorem State.raise_syncTimeout (s : State) : s.raise .syncTimeout = s.withError .syncTimeout .none := rfl
@[simp] theorem State.raise_noSession (s : State) : s.raise .noSession = s.withError .noSession .none := rfl
@[simp] theorem State.raise_initFailure (s : State) : s.raise .initFailure = s.withError .initFailure .none := rfl
@[simp] theorem State.raise_badCommand (s : State) : s.raise .badCommand = s.withError .badCommand .none := rfl

/-- An error other than TransportFailure leaves `failed` as it was (R221, R222, R224, R226). -/
theorem State.raise_failed_of_ne (s : State) (e : Err) (h : e ≠ .transportFailure) : (s.raise e).failed = s.failed := by
  cases e with
  | lostSync c => cases c <;> rfl
  | transportFailure => exact absurd rfl h
  | _ => rfl

/-- An error other than LostSync leaves `synced` as it was (R221, R224 to R226). -/
theorem State.raise_synced_of_notLost (s : State) (e : Err) (h : ∀ c, e ≠ .lostSync c) :
    (s.raise e).synced = s.synced := by
  cases e with
  | lostSync c => exact absurd rfl (h c)
  | _ => rfl

end Sys2Proof.Machine
end

