-- ==== Sys2Proof/Laws/Ops.lean ====
section
/-! SUPPORT. What each shared operation can do, said once, for the provers to cite in place of unfolding it. -/

namespace Sys2Proof.Machine

/-! ### Polls -/

/-- A poll that delivers takes a prefix of `Q`, no longer than asked for, and leaves the rest (R42). -/
theorem pollAnswer_data (n : Nat) (rx : RxAnswer) (q bs : List Byte) (h : pollAnswer n rx q = .data bs) :
    bs ++ pollRest n rx q = q ∧ bs.length ≤ n := by
  cases rx with
  | fail => simp [pollAnswer] at h
  | deliver k =>
    simp only [pollAnswer, Polled.data.injEq] at h
    subst h
    simp only [pollRest, List.take_append_drop, List.length_take, deliverCount, true_and]
    omega

/-- A poll fails exactly when the transport answers `Fail`, and delivers nothing then (R44). -/
theorem pollAnswer_fail (n : Nat) (rx : RxAnswer) (q : List Byte) :
    pollAnswer n rx q = .fail ↔ rx = .fail := by
  cases rx <;> simp [pollAnswer]

@[simp] theorem pollRest_fail (n : Nat) (q : List Byte) : pollRest n .fail q = q := rfl

/-! ### The scan loop -/

/-- The deadline test, as R115 words it. -/
theorem State.deadlinePassed_iff (s : State) :
    s.deadlinePassed = true ↔ s.cfg.deadline s.board ≤ (s.now - s.t0).toNat :=
  decide_eq_true_iff

/-- The scan, said once: an invariant `I` kept by a turn, by a poll and by the scanner's memory holds wherever the scan
waits, and where it ends the response is one of three (R114, R115, R116). -/
theorem scan_induct (I P : State → Prop)
    (turn : ∀ s t rest, I s → I (s.observe t rest))
    (poll : ∀ s rx, I s → I (s.polled 1 rx))
    (memory : ∀ s b, I s → I { s with prevCr := b })
    (wait : ∀ s, I s → P s)
    (late : ∀ s, I s → s.deadlinePassed = true → P (s.raise .syncTimeout))
    (lost : ∀ s, I s → P (s.raise .transportFailure))
    (found : ∀ s, I s → s.prevCr = true → P s.resynced) :
    ∀ ts s, I s → P (scan ts s) := by
  intro ts
  induction ts with
  | nil => intro s h; exact wait s h
  | cons t rest ih =>
    intro s h
    simp only [scan]
    have ho := turn s t rest h
    split
    · exact wait s h
    · split
      · rename_i hd; exact late _ ho hd
      · split
        · exact lost _ (poll _ _ ho)
        · exact ih _ (poll _ _ ho)
        · split
          · rename_i hc; exact found _ (poll _ _ ho) (by simpa using hc.1)
          · exact ih _ (memory _ _ (poll _ _ ho))

/-- The scan does nothing where no turn may be used (R250, R273). -/
theorem scan_stop (s s' : State) (h : s.tape = [] ∨ s.rstPending = true) : scan s.tape s' = s' := by
  cases ht : s.tape with
  | nil => rfl
  | cons t rest =>
    have hr : t.rst = true := by simpa [State.rstPending, ht] using h
    simp [scan, hr]

/-! ### The Accumulator -/

/-- The Accumulator does nothing where no turn may be used (R250, R273). -/
theorem gather_stop (a : Acq) (s s' : State) (h : s.tape = [] ∨ s.rstPending = true) : gather a s.tape s' = s' := by
  cases ht : s.tape with
  | nil => rfl
  | cons t rest =>
    have hr : t.rst = true := by simpa [State.rstPending, ht] using h
    simp [gather, hr]

/-- What the bytes of a poll do to the frame buffer: those before and those behind them stay (R102). -/
theorem writeBytes_toList (bs : List Byte) : ∀ (x : Frame) (i : Nat), i + bs.length ≤ 11 →
    (writeBytes x i bs).toList = x.toList.take i ++ bs ++ x.toList.drop (i + bs.length) := by
  induction bs with
  | nil => intro x i _; simp [writeBytes]
  | cons b bs ih =>
    intro x i h
    simp only [List.length_cons] at h
    rw [writeBytes, ih _ _ (by omega), Vector.toList_setIfInBounds]
    have hl : x.toList.length = 11 := by simp
    generalize x.toList = l at hl ⊢
    apply List.ext_getElem
    · simp; omega
    · intro j _ _
      simp only [List.getElem_append, List.getElem_take, List.getElem_set, List.length_take, List.length_set,
        List.length_append, List.length_cons, List.getElem_drop, List.getElem_cons]
      by_cases c1 : j < i
      · grind
      · by_cases c2 : j = i <;> grind

/-- The bytes a poll of the Accumulator delivers fit in the buffer: `cnt` counts them without wrapping (R101, R102). -/
theorem append_cnt (s : State) (rx : RxAnswer) (bs : List Byte) (hc : s.cnt.toNat ≤ 10)
    (h : pollAnswer s.missing rx s.q = .data bs) :
    ((s.polled s.missing rx).append bs).cnt.toNat = s.cnt.toNat + bs.length ∧ s.cnt.toNat + bs.length ≤ 11 := by
  have hl := (pollAnswer_data _ _ _ _ h).2
  simp only [State.missing] at hl
  simp only [State.append_cnt, State.polled_cnt, BitVec.toNat_add, BitVec.toNat_ofNat]
  omega

/-- The Accumulator's loop, said once: an invariant `I` (with `cnt ≤ 10`) kept by a turn, by an empty poll and by an
append that does not complete the frame holds wherever the loop waits; the other ends are named (R100 to R106, R204). -/
theorem gather_induct (a : Acq) (I P : State → Prop)
    (small : ∀ s, I s → s.cnt.toNat ≤ 10)
    (turn : ∀ s t rest, I s → I (s.observe t rest))
    (empty : ∀ s rx, I s → pollAnswer s.missing rx s.q = .data [] → I (s.polled s.missing rx))
    (grow : ∀ s rx b bs, I s → pollAnswer s.missing rx s.q = .data (b :: bs) →
      s.cnt.toNat + (b :: bs).length ≤ 10 → I ((s.polled s.missing rx).append (b :: bs)))
    (wait : ∀ s, I s → P s)
    (lost : ∀ s rx, I s → pollAnswer s.missing rx s.q = .fail → P ((s.polled s.missing rx).raise .transportFailure))
    (wouldBlock : ∀ s, I s → a = .nonblocking → P (s.raise .wouldBlock))
    (drained : ∀ s, I s → a = .drain → P (endDrain s))
    (full : ∀ s rx b bs, I s → pollAnswer s.missing rx s.q = .data (b :: bs) →
      s.cnt.toNat + (b :: bs).length = 11 →
      P { (s.polled s.missing rx).append (b :: bs) with cnt := 0, phase := .captured a }) :
    ∀ ts s, I s → P (gather a ts s) := by
  intro ts
  induction ts with
  | nil => intro s h; exact wait s h
  | cons t rest ih =>
    intro s h
    simp only [gather]
    have ho := turn s t rest h
    split
    · exact wait s h
    · split
      · rename_i hp; exact lost _ _ ho hp
      · rename_i hp
        have he := empty _ _ ho hp
        cases a
        · exact wouldBlock _ he rfl
        · exact ih _ he
        · exact drained _ he rfl
      · rename_i b bs hp
        have hn := append_cnt _ _ _ (small _ ho) hp
        split
        · rename_i hc
          refine full _ _ b bs ho hp ?_
          rw [hc] at hn
          have := hn.1
          simpa using this.symm
        · rename_i hc
          refine ih _ (grow _ _ b bs ho hp ?_)
          have h11 : ((s.observe t rest).cnt.toNat + (b :: bs).length) ≠ 11 := by
            intro hx
            apply hc
            apply BitVec.eq_of_toNat_eq
            rw [hn.1, hx]
            rfl
          omega

/-- `Accumulate` goes on exactly with `cnt ≤ 10`, and then it is the loop (R101). -/
theorem accumulate_next (a : Acq) (s t : State) :
    accumulate a s = .next t ↔ s.cnt.toNat ≤ 10 ∧ t = gather a s.tape { s with phase := .gathering a } := by
  unfold accumulate
  split <;> simp_all [eq_comm]

/-! ### Responses and admission -/

/-- A command of a live session is answered by its mode or runs (R208). -/
theorem whenLive_cases (s : State) (run : State → Host.Outcome State Fault Refusal) :
    (s.mode = .closed ∧ whenLive s run = .next (s.withError .noSession .none)) ∨
    (s.mode = .failed ∧ whenLive s run = .next (s.raise .transportFailure)) ∨
    ((s.mode = .synced ∨ s.mode = .unsynced) ∧ whenLive s run = run s) := by
  unfold whenLive State.mode
  by_cases h1 : s.opened = false
  · exact .inl (by simp [h1])
  · by_cases h2 : s.failed = true
    · exact .inr (.inl (by simp [h1, h2]))
    · cases h3 : s.synced
      · exact .inr (.inr (by simp [h1, h2]))
      · exact .inr (.inr (by simp [h1, h2]))

/-- The gate of an acquisition (R206). -/
theorem acquire_cases (a : Acq) (s : State) :
    (s.synced = false ∧ acquire a s = .next (s.withError .lostSync .notSynced)) ∨
    (s.synced = true ∧ acquire a s = accumulate a s) := by
  unfold acquire
  cases h : s.synced <;> simp

/-- In SYNCED mode an acquisition is the Accumulator (R206, R208). -/
theorem whenLive_acquire_synced (a : Acq) (s : State) (h : s.mode = .synced) :
    whenLive s (acquire a) = accumulate a s := by
  rcases whenLive_cases s (acquire a) with ⟨h1, _⟩ | ⟨h1, _⟩ | ⟨_, h2⟩
  · simp [h] at h1
  · simp [h] at h1
  · rw [h2]
    rcases acquire_cases a s with ⟨h3, _⟩ | ⟨_, h3⟩
    · unfold State.mode at h
      split_ifs at h
      all_goals simp_all
    · exact h3

/-- A good frame's end: dropped by DISCARD, else answered (R204, R206). -/
theorem completeFrame_cases (f : Func) (v : Val) (p : Payload) (s : State) :
    (s.phase = .captured .drain ∧ completeFrame f v p s = .next { s with phase := .gathering .drain }) ∨
    (s.phase ≠ .captured .drain ∧
      completeFrame f v p s = .next (s.respond .ok .none (frameSample s.cfg s.board f v p))) := by
  unfold completeFrame
  split
  · rename_i h; exact .inl ⟨h, rfl⟩
  · rename_i h; exact .inr ⟨fun hc => h hc, rfl⟩

/-- INIT's wait for the answer to `TOpen` (R200). -/
theorem awaitOpen_cases (b : Board) (s : State) :
    ((s.tape = [] ∨ s.rstPending = true) ∧ awaitOpen b s = s) ∨
    (∃ t rest, s.tape = t :: rest ∧ t.rst = false ∧ t.topen = .fail ∧
      awaitOpen b s = (s.observe t rest).raise .initFailure) ∨
    (∃ t rest q0, s.tape = t :: rest ∧ t.rst = false ∧ t.topen = .ok q0 ∧
      awaitOpen b s = { (s.observe t rest).tOpened q0 with board := b, opened := true }.respondOk) := by
  unfold awaitOpen State.rstPending
  cases hs : s.tape with
  | nil => exact .inl (by simp)
  | cons t rest =>
    cases hr : t.rst
    · cases ho : t.topen with
      | fail => exact .inr (.inl ⟨t, rest, rfl, hr, ho, by simp [hr, ho]⟩)
      | ok q0 => exact .inr (.inr ⟨t, rest, q0, rfl, hr, ho, by simp [hr, ho]⟩)
    · exact .inl (by simp [hr])

/-- INIT in full: the start, and then the answer to `TOpen` if there is one (R200); the link is closed first where the
session was open. -/
theorem execInit_eq (b : Board) (s : State) :
    execInit b s = .next (awaitOpen b { s.startInit b with link := s.link && !s.opened }) := by
  unfold execInit
  cases h : s.opened <;> simp [State.startInit, State.blockReset, State.tClose]

/-! ### The step -/

/-- What an idle block can find (R75, R207). -/
theorem nextOffer_cases (s : State) :
    (s.tape = [] ∧ s.nextOffer = .silent) ∨
    (∃ t rest, s.tape = t :: rest ∧ t.cmd = none ∧ s.nextOffer = .pause (s.observe t rest)) ∨
    (∃ t rest w, s.tape = t :: rest ∧ t.cmd = some w ∧
      s.nextOffer = .command w { s.observe t rest with rValid := false }) := by
  unfold State.nextOffer
  cases hs : s.tape with
  | nil => exact .inl ⟨rfl, rfl⟩
  | cons t rest =>
    cases hc : t.cmd with
    | none => exact .inr (.inl ⟨t, rest, rfl, hc, by simp [hc]⟩)
    | some w => exact .inr (.inr ⟨t, rest, w, rfl, hc, by simp [hc]⟩)

/-- Everything one step can do. -/
theorem step_cases (s : State) :
    (s.rstPending = true ∧ step s = .next s.applyRst) ∨
    (s.rstPending = false ∧ s.phase = .idle ∧ s.tape = [] ∧ step s = .next s) ∨
    (s.rstPending = false ∧ s.phase = .idle ∧
      ∃ t rest, s.tape = t :: rest ∧ t.cmd = none ∧ step s = .next (s.observe t rest)) ∨
    (s.rstPending = false ∧ s.phase = .idle ∧
      ∃ t rest w, s.tape = t :: rest ∧ t.cmd = some w ∧
        step s = exec (decodeCommand w) { s.observe t rest with rValid := false }) ∨
    (s.rstPending = false ∧ ∃ a c, s.phase = .captured a ∧ decodeFrame s.cfg s.x = .error c ∧
      step s = .next (s.raise (.lostSync c))) ∨
    (s.rstPending = false ∧ ∃ a i, s.phase = .captured a ∧ decodeFrame s.cfg s.x = .ok i ∧ step s = exec i s) ∨
    (s.rstPending = false ∧ (∃ b, s.phase = .opening b ∧ step s = .next (awaitOpen b s))) ∨
    (s.rstPending = false ∧ s.phase = .scanning ∧ step s = .next (scan s.tape s)) ∨
    (s.rstPending = false ∧ ∃ a, s.phase = .gathering a ∧ step s = accumulate a s) := by
  unfold step
  cases hr : s.rstPending
  · cases hp : s.phase with
    | idle =>
      rcases nextOffer_cases s with ⟨ht, ho⟩ | ⟨t, rest, ht, hc, ho⟩ | ⟨t, rest, w, ht, hc, ho⟩
      · simp [ho, ht]
      · simp [ho, ht, hc]
      · simp [ho, ht, hc]
    | captured a =>
      cases hd : decodeFrame s.cfg s.x <;> simp
    | opening b => simp [resume, hp]
    | scanning => simp [resume, hp]
    | gathering a => simp [resume, hp]
  · simp

end Sys2Proof.Machine
end

