-- ==== Sys2Proof/Laws/PerInstr.lean ====
section
/-! SUPPORT. The shape of every instruction's encoding, one lemma per constructor: a decode row's 11 bytes are a frame as
the device sends it (30_encoding.md R60), a command is one 4-bit word in a byte (R76). -/

namespace Sys2Proof.Laws.EncodedShape

open Sys2Proof.Machine

/-- A decode row encodes to a frame on the wire, a command to one byte with a zero upper nibble, under every code map. -/
def Statement (i : Instr) : Prop :=
  ∀ c : Cfg, (i.payload?.isSome = true → WireFrame (encode c i)) ∧
    (i.payload? = none → ∃ b, encode c i = [b] ∧ hiNib b = 0)

/-- The bytes of a decode row are a frame on the wire (R60). -/
theorem frameBytes_wire (c : Cfg) (rng : Nibble) (f : Func) (p : Payload) : WireFrame (frameBytes c rng f p) :=
  ⟨[structural rng, structural p.d3, structural p.d2, structural p.d1, structural p.d0, structural (c.code f),
    structural p.st, structural p.o1, structural p.o2], rfl, by simp [nibHi], rfl⟩

/-- A command byte has a zero upper nibble (R76). -/
theorem commandByte_small (b : Bool) (op : BitVec 3) : ∃ w, commandByte b op = [w] ∧ hiNib w = 0 := by
  refine ⟨_, rfl, ?_⟩
  revert b op
  decide

theorem volt0 (p : Payload) : Statement (.volt0 p) := fun _ => ⟨fun _ => frameBytes_wire _ _ _ _, nofun⟩
theorem volt1 (p : Payload) : Statement (.volt1 p) := fun _ => ⟨fun _ => frameBytes_wire _ _ _ _, nofun⟩
theorem volt2 (p : Payload) : Statement (.volt2 p) := fun _ => ⟨fun _ => frameBytes_wire _ _ _ _, nofun⟩
theorem volt3 (p : Payload) : Statement (.volt3 p) := fun _ => ⟨fun _ => frameBytes_wire _ _ _ _, nofun⟩
theorem volt4 (p : Payload) : Statement (.volt4 p) := fun _ => ⟨fun _ => frameBytes_wire _ _ _ _, nofun⟩
theorem curUa0 (p : Payload) : Statement (.curUa0 p) := fun _ => ⟨fun _ => frameBytes_wire _ _ _ _, nofun⟩
theorem curUa1 (p : Payload) : Statement (.curUa1 p) := fun _ => ⟨fun _ => frameBytes_wire _ _ _ _, nofun⟩
theorem curMa0 (p : Payload) : Statement (.curMa0 p) := fun _ => ⟨fun _ => frameBytes_wire _ _ _ _, nofun⟩
theorem curMa1 (p : Payload) : Statement (.curMa1 p) := fun _ => ⟨fun _ => frameBytes_wire _ _ _ _, nofun⟩
theorem curAuto0 (p : Payload) : Statement (.curAuto0 p) := fun _ => ⟨fun _ => frameBytes_wire _ _ _ _, nofun⟩
theorem curAuto1 (p : Payload) : Statement (.curAuto1 p) := fun _ => ⟨fun _ => frameBytes_wire _ _ _ _, nofun⟩
theorem curMan (rng : Nibble) (p : Payload) : Statement (.curMan rng p) := fun _ => ⟨fun _ => frameBytes_wire _ _ _ _, nofun⟩
theorem res0 (p : Payload) : Statement (.res0 p) := fun _ => ⟨fun _ => frameBytes_wire _ _ _ _, nofun⟩
theorem res1 (p : Payload) : Statement (.res1 p) := fun _ => ⟨fun _ => frameBytes_wire _ _ _ _, nofun⟩
theorem res2 (p : Payload) : Statement (.res2 p) := fun _ => ⟨fun _ => frameBytes_wire _ _ _ _, nofun⟩
theorem res3 (p : Payload) : Statement (.res3 p) := fun _ => ⟨fun _ => frameBytes_wire _ _ _ _, nofun⟩
theorem res4 (p : Payload) : Statement (.res4 p) := fun _ => ⟨fun _ => frameBytes_wire _ _ _ _, nofun⟩
theorem res5 (p : Payload) : Statement (.res5 p) := fun _ => ⟨fun _ => frameBytes_wire _ _ _ _, nofun⟩
theorem cont (rng : Nibble) (p : Payload) : Statement (.cont rng p) := fun _ => ⟨fun _ => frameBytes_wire _ _ _ _, nofun⟩
theorem diode (rng : Nibble) (p : Payload) : Statement (.diode rng p) := fun _ => ⟨fun _ => frameBytes_wire _ _ _ _, nofun⟩
theorem freq0 (p : Payload) : Statement (.freq0 p) := fun _ => ⟨fun _ => frameBytes_wire _ _ _ _, nofun⟩
theorem freq1 (p : Payload) : Statement (.freq1 p) := fun _ => ⟨fun _ => frameBytes_wire _ _ _ _, nofun⟩
theorem freq2 (p : Payload) : Statement (.freq2 p) := fun _ => ⟨fun _ => frameBytes_wire _ _ _ _, nofun⟩
theorem freq3 (p : Payload) : Statement (.freq3 p) := fun _ => ⟨fun _ => frameBytes_wire _ _ _ _, nofun⟩
theorem freq4 (p : Payload) : Statement (.freq4 p) := fun _ => ⟨fun _ => frameBytes_wire _ _ _ _, nofun⟩
theorem cap0 (p : Payload) : Statement (.cap0 p) := fun _ => ⟨fun _ => frameBytes_wire _ _ _ _, nofun⟩
theorem cap1 (p : Payload) : Statement (.cap1 p) := fun _ => ⟨fun _ => frameBytes_wire _ _ _ _, nofun⟩
theorem cap2 (p : Payload) : Statement (.cap2 p) := fun _ => ⟨fun _ => frameBytes_wire _ _ _ _, nofun⟩
theorem cap3 (p : Payload) : Statement (.cap3 p) := fun _ => ⟨fun _ => frameBytes_wire _ _ _ _, nofun⟩
theorem cap4 (p : Payload) : Statement (.cap4 p) := fun _ => ⟨fun _ => frameBytes_wire _ _ _ _, nofun⟩
theorem cap5 (p : Payload) : Statement (.cap5 p) := fun _ => ⟨fun _ => frameBytes_wire _ _ _ _, nofun⟩
theorem cap6 (p : Payload) : Statement (.cap6 p) := fun _ => ⟨fun _ => frameBytes_wire _ _ _ _, nofun⟩
theorem temp (rng : Nibble) (p : Payload) : Statement (.temp rng p) := fun _ => ⟨fun _ => frameBytes_wire _ _ _ _, nofun⟩
theorem adp0 (rng : Nibble) (p : Payload) : Statement (.adp0 rng p) := fun _ => ⟨fun _ => frameBytes_wire _ _ _ _, nofun⟩
theorem adp1 (rng : Nibble) (p : Payload) : Statement (.adp1 rng p) := fun _ => ⟨fun _ => frameBytes_wire _ _ _ _, nofun⟩
theorem adp2 (rng : Nibble) (p : Payload) : Statement (.adp2 rng p) := fun _ => ⟨fun _ => frameBytes_wire _ _ _ _, nofun⟩
theorem adp3 (rng : Nibble) (p : Payload) : Statement (.adp3 rng p) := fun _ => ⟨fun _ => frameBytes_wire _ _ _ _, nofun⟩
theorem init (b : Board) : Statement (.init b) := fun _ => ⟨nofun, fun _ => commandByte_small _ _⟩
theorem sync : Statement .sync := fun _ => ⟨nofun, fun _ => commandByte_small _ _⟩
theorem acqNb : Statement .acqNb := fun _ => ⟨nofun, fun _ => commandByte_small _ _⟩
theorem acqB : Statement .acqB := fun _ => ⟨nofun, fun _ => commandByte_small _ _⟩
theorem discard : Statement .discard := fun _ => ⟨nofun, fun _ => commandByte_small _ _⟩
theorem teardown : Statement .teardown := fun _ => ⟨nofun, fun _ => commandByte_small _ _⟩
theorem reserved0 : Statement .reserved0 := fun _ => ⟨nofun, fun _ => commandByte_small _ _⟩
theorem reserved7 : Statement .reserved7 := fun _ => ⟨nofun, fun _ => commandByte_small _ _⟩

end Sys2Proof.Laws.EncodedShape
end

