-- ==== Sys2Proof/Tests/Slice0.lean ====
section
/-! SUPPORT. Tests: the digit checks refuse ill-formed terms; every constructor's decoding from a word written out from
the spec's encoding (30_encoding.md R60, R70, R71, R76) and its Sample from 95_test_vectors.md; the commands by the tables
of 95_test_vectors.md; and for every obligation with hypotheses a concrete case that meets them. -/

namespace Sys2Proof.Tests

open Sys2Proof Sys2Proof.Machine

/-! ### Helpers -/

/-- The Sample word that a frame word, placed right after reset on board `b`, answers with `OK`. -/
def rowAnswer (b : Board) (w : Nat) : Option (BitVec 39) :=
  match step ({ State.reset with board := b }.withFetchWord 88 w) with
  | .next t => if t.rValid ∧ t.rCode = .ok then some t.sample.word else none
  | _ => none

/-- The cause a placed frame word is reported with when it ends in `LostSync` and clears `synced`. -/
def rowCause (w : Nat) : Option Cause :=
  match step (State.reset.withFetchWord 88 w) with
  | .next t => if t.rCode = .lostSync ∧ t.synced = false then some t.rCause else none
  | _ => none

/-- The state after an outcome. -/
def after (o : Host.Outcome State Fault Refusal) : State :=
  match o with
  | .next t => t
  | _ => State.reset

/-- An UNSYNCED session. -/
def live : State := { State.reset with opened := true, link := true }

/-- A SYNCED session. -/
def ready : State := { live with synced := true }

/-- A FAILED session with 3 bytes held. -/
def broken : State := { ready with failed := true, cnt := 3 }

/-- Digits 1234, no flags; the greatest reading; every flag. -/
def pay : Payload := ⟨1, 2, 3, 4, 0, 0, 0⟩
def payMax : Payload := ⟨4, 9, 9, 9, 0, 0, 0⟩
def payFlags : Payload := ⟨1, 2, 3, 4, 0xF, 0xF, 0xF⟩

/-- `FRAME VOLT.0 1234`. -/
def voltFrame : Frame := frameOf 0 0xB pay

/-- A SYNCED session whose frame `F` was captured by `a`. -/
def caught (a : Acq) (F : Frame) : State := { ready with x := F, phase := .captured a }

/-- A turn that asserts `rst`. -/
def resetTurn : Turn := { rst := true, cmd := none, arrive := [], now := 7, rx := .fail, topen := .fail }

/-- A turn that answers `TOpen`. -/
def openTurn (o : OpenAnswer) : Turn := { rst := false, cmd := none, arrive := [], now := 7, rx := .fail, topen := o }

/-- What a command answered: code, cause, mode, bytes held, bytes left in `Q`, `board`. -/
def answered (o : Host.Outcome State Fault Refusal) : Option (RespCode × Cause × Mode × Nat × Nat × Board) :=
  match o with
  | .next t => if t.phase = .idle then some (t.rCode, t.rCause, t.mode, t.cnt.toNat, t.q.length, t.board) else none
  | _ => none

/-! ### Well-formedness: one ill-formed term for each check (R122) -/

theorem test_wf_accepts : (Instr.volt0 payMax).wf = true := by decide
theorem test_wf_refuses_d3 : (Instr.volt0 ⟨5, 9, 9, 9, 0, 0, 0⟩).wf = false := by decide
theorem test_wf_refuses_d2 : (Instr.volt0 ⟨4, 10, 9, 9, 0, 0, 0⟩).wf = false := by decide
theorem test_wf_refuses_d1 : (Instr.volt0 ⟨4, 9, 10, 9, 0, 0, 0⟩).wf = false := by decide
theorem test_wf_refuses_d0 : (Instr.volt0 ⟨4, 9, 9, 10, 0, 0, 0⟩).wf = false := by decide

/-- `CFG_REF` meets the constraints of R11. -/
theorem test_cfgRef_valid : cfgRef.valid = true := by decide

/-- The sets of scales are part of the constraints (R149): FREQ with one row's scale lost, all rows +3, is refused. -/
theorem test_valid_refuses_lost_scale :
    ({ cfgRef with freq := #v[⟨0, .p0, 3⟩, ⟨1, .p1, 3⟩, ⟨2, .p2, 3⟩, ⟨3, .p3, 3⟩, ⟨4, .p0, 3⟩] } : Cfg).valid = false := by decide

/-! ### VOLT (R150; vectors of 95_test_vectors.md, part 2.1) -/

theorem test_volt0 :
    decodeTableWord 88 0x30313233343B3030300D0A = some (.volt0 ⟨1, 2, 3, 4, 0, 0, 0⟩) ∧
    rowAnswer .unknown 0x30313233343B3030300D0A = some 0x1D84D2E801 := by decide

theorem test_volt1 :
    decodeTableWord 88 0x31313233343B3030300D0A = some (.volt1 ⟨1, 2, 3, 4, 0, 0, 0⟩) ∧
    rowAnswer .unknown 0x31313233343B3030300D0A = some 0x1D84D2F001 := by decide

theorem test_volt2 :
    decodeTableWord 88 0x32313233343B3030300D0A = some (.volt2 ⟨1, 2, 3, 4, 0, 0, 0⟩) ∧
    rowAnswer .unknown 0x32313233343B3030300D0A = some 0x1D84D2F801 := by decide

theorem test_volt3 :
    decodeTableWord 88 0x33313233343B3030300D0A = some (.volt3 ⟨1, 2, 3, 4, 0, 0, 0⟩) ∧
    rowAnswer .unknown 0x33313233343B3030300D0A = some 0x1D84D20001 := by decide

theorem test_volt4 :
    decodeTableWord 88 0x34313233343B3030300D0A = some (.volt4 ⟨1, 2, 3, 4, 0, 0, 0⟩) ∧
    rowAnswer .unknown 0x34313233343B3030300D0A = some 0x1D84D2E001 := by decide

/-! ### CUR (R151 to R153, R158; vectors of 95_test_vectors.md, part 2.1) -/

theorem test_curUa0 :
    decodeTableWord 88 0x30313233343D3030300D0A = some (.curUa0 ⟨1, 2, 3, 4, 0, 0, 0⟩) ∧
    rowAnswer .unknown 0x30313233343D3030300D0A = some 0x1E84D2F802 := by decide

theorem test_curUa1 :
    decodeTableWord 88 0x31313233343D3030300D0A = some (.curUa1 ⟨1, 2, 3, 4, 0, 0, 0⟩) ∧
    rowAnswer .unknown 0x31313233343D3030300D0A = some 0x1E84D20002 := by decide

theorem test_curMa0 :
    decodeTableWord 88 0x3031323334393030300D0A = some (.curMa0 ⟨1, 2, 3, 4, 0, 0, 0⟩) ∧
    rowAnswer .unknown 0x3031323334393030300D0A = some 0x1C84D2F003 := by decide

theorem test_curMa1 :
    decodeTableWord 88 0x3131323334393030300D0A = some (.curMa1 ⟨1, 2, 3, 4, 0, 0, 0⟩) ∧
    rowAnswer .unknown 0x3131323334393030300D0A = some 0x1C84D2F803 := by decide

theorem test_curAuto0 :
    decodeTableWord 88 0x30313233343F3030300D0A = some (.curAuto0 ⟨1, 2, 3, 4, 0, 0, 0⟩) ∧
    rowAnswer .unknown 0x30313233343F3030300D0A = some 0x1F84D2E804 := by decide

theorem test_curAuto1 :
    decodeTableWord 88 0x31313233343F3030300D0A = some (.curAuto1 ⟨1, 2, 3, 4, 0, 0, 0⟩) ∧
    rowAnswer .unknown 0x31313233343F3030300D0A = some 0x1F84D2F004 := by decide

theorem test_curMan :
    decodeTableWord 88 0x3031323334303030300D0A = some (.curMan 0 ⟨1, 2, 3, 4, 0, 0, 0⟩) ∧
    rowAnswer .unknown 0x3031323334303030300D0A = some 0x1800000004 := by decide

/-! ### RES (R159; vectors of 95_test_vectors.md, part 2.1) -/

theorem test_res0 :
    decodeTableWord 88 0x3031323334333030300D0A = some (.res0 ⟨1, 2, 3, 4, 0, 0, 0⟩) ∧
    rowAnswer .unknown 0x3031323334333030300D0A = some 0x1984D2F805 := by decide

theorem test_res1 :
    decodeTableWord 88 0x3131323334333030300D0A = some (.res1 ⟨1, 2, 3, 4, 0, 0, 0⟩) ∧
    rowAnswer .unknown 0x3131323334333030300D0A = some 0x1984D20005 := by decide

theorem test_res2 :
    decodeTableWord 88 0x3231323334333030300D0A = some (.res2 ⟨1, 2, 3, 4, 0, 0, 0⟩) ∧
    rowAnswer .unknown 0x3231323334333030300D0A = some 0x1984D20805 := by decide

theorem test_res3 :
    decodeTableWord 88 0x3331323334333030300D0A = some (.res3 ⟨1, 2, 3, 4, 0, 0, 0⟩) ∧
    rowAnswer .unknown 0x3331323334333030300D0A = some 0x1984D21005 := by decide

theorem test_res4 :
    decodeTableWord 88 0x3431323334333030300D0A = some (.res4 ⟨1, 2, 3, 4, 0, 0, 0⟩) ∧
    rowAnswer .unknown 0x3431323334333030300D0A = some 0x1984D21805 := by decide

theorem test_res5 :
    decodeTableWord 88 0x3531323334333030300D0A = some (.res5 ⟨1, 2, 3, 4, 0, 0, 0⟩) ∧
    rowAnswer .unknown 0x3531323334333030300D0A = some 0x1984D22005 := by decide

/-! ### CONT and DIODE (R160, R161; vectors of 95_test_vectors.md, part 2.1) -/

theorem test_cont :
    decodeTableWord 88 0x3031323334353030300D0A = some (.cont 0 ⟨1, 2, 3, 4, 0, 0, 0⟩) ∧
    rowAnswer .unknown 0x3031323334353030300D0A = some 0x1A84D20005 := by decide

theorem test_diode :
    decodeTableWord 88 0x3031323334313030300D0A = some (.diode 0 ⟨1, 2, 3, 4, 0, 0, 0⟩) ∧
    rowAnswer .unknown 0x3031323334313030300D0A = some 0x1884D2E801 := by decide

/-! ### FREQ (R162; vectors of 95_test_vectors.md, part 2.1) -/

theorem test_freq0 :
    decodeTableWord 88 0x3031323334323030300D0A = some (.freq0 ⟨1, 2, 3, 4, 0, 0, 0⟩) ∧
    rowAnswer .unknown 0x3031323334323030300D0A = some 0x1904D20006 := by decide

theorem test_freq1 :
    decodeTableWord 88 0x3131323334323030300D0A = some (.freq1 ⟨1, 2, 3, 4, 0, 0, 0⟩) ∧
    rowAnswer .unknown 0x3131323334323030300D0A = some 0x1904D20806 := by decide

theorem test_freq2 :
    decodeTableWord 88 0x3231323334323030300D0A = some (.freq2 ⟨1, 2, 3, 4, 0, 0, 0⟩) ∧
    rowAnswer .unknown 0x3231323334323030300D0A = some 0x1904D21006 := by decide

theorem test_freq3 :
    decodeTableWord 88 0x3331323334323030300D0A = some (.freq3 ⟨1, 2, 3, 4, 0, 0, 0⟩) ∧
    rowAnswer .unknown 0x3331323334323030300D0A = some 0x1904D21806 := by decide

theorem test_freq4 :
    decodeTableWord 88 0x3431323334323030300D0A = some (.freq4 ⟨1, 2, 3, 4, 0, 0, 0⟩) ∧
    rowAnswer .unknown 0x3431323334323030300D0A = some 0x1904D22006 := by decide

/-! ### CAP (R163; vectors of 95_test_vectors.md, part 2.1) -/

theorem test_cap0 :
    decodeTableWord 88 0x3031323334363030300D0A = some (.cap0 ⟨1, 2, 3, 4, 0, 0, 0⟩) ∧
    rowAnswer .unknown 0x3031323334363030300D0A = some 0x1B04D2A007 := by decide

theorem test_cap1 :
    decodeTableWord 88 0x3131323334363030300D0A = some (.cap1 ⟨1, 2, 3, 4, 0, 0, 0⟩) ∧
    rowAnswer .unknown 0x3131323334363030300D0A = some 0x1B04D2A807 := by decide

theorem test_cap2 :
    decodeTableWord 88 0x3231323334363030300D0A = some (.cap2 ⟨1, 2, 3, 4, 0, 0, 0⟩) ∧
    rowAnswer .unknown 0x3231323334363030300D0A = some 0x1B04D2B007 := by decide

theorem test_cap3 :
    decodeTableWord 88 0x3331323334363030300D0A = some (.cap3 ⟨1, 2, 3, 4, 0, 0, 0⟩) ∧
    rowAnswer .unknown 0x3331323334363030300D0A = some 0x1B04D2B807 := by decide

theorem test_cap4 :
    decodeTableWord 88 0x3431323334363030300D0A = some (.cap4 ⟨1, 2, 3, 4, 0, 0, 0⟩) ∧
    rowAnswer .unknown 0x3431323334363030300D0A = some 0x1B04D2C007 := by decide

theorem test_cap5 :
    decodeTableWord 88 0x3531323334363030300D0A = some (.cap5 ⟨1, 2, 3, 4, 0, 0, 0⟩) ∧
    rowAnswer .unknown 0x3531323334363030300D0A = some 0x1B04D2C807 := by decide

theorem test_cap6 :
    decodeTableWord 88 0x3631323334363030300D0A = some (.cap6 ⟨1, 2, 3, 4, 0, 0, 0⟩) ∧
    rowAnswer .unknown 0x3631323334363030300D0A = some 0x1B04D2D007 := by decide

/-! ### TEMP (R166; vectors of 95_test_vectors.md, part 2.1) -/

theorem test_temp :
    decodeTableWord 88 0x3031323334343030300D0A = some (.temp 0 ⟨1, 2, 3, 4, 0, 0, 0⟩) ∧
    rowAnswer .unknown 0x3031323334343030300D0A = some 0x1A00000009 := by decide

/-! ### ADP (R168 to R171; vectors of 95_test_vectors.md, part 2.1) -/

theorem test_adp0 :
    decodeTableWord 88 0x30313233343E3030300D0A = some (.adp0 0 ⟨1, 2, 3, 4, 0, 0, 0⟩) ∧
    rowAnswer .unknown 0x30313233343E3030300D0A = some 0x1F5FFF7C0A := by decide

theorem test_adp0_on_variantA : rowAnswer .variantA 0x30313233343E3030300D0A = some 0x1F04D2001A := by decide

theorem test_adp1 :
    decodeTableWord 88 0x30313233343C3030300D0A = some (.adp1 0 ⟨1, 2, 3, 4, 0, 0, 0⟩) ∧
    rowAnswer .unknown 0x30313233343C3030300D0A = some 0x1E5FFF7C0A := by decide

theorem test_adp1_on_variantA : rowAnswer .variantA 0x30313233343C3030300D0A = some 0x1E04D2F81A := by decide

theorem test_adp2 :
    decodeTableWord 88 0x3031323334383030300D0A = some (.adp2 0 ⟨1, 2, 3, 4, 0, 0, 0⟩) ∧
    rowAnswer .unknown 0x3031323334383030300D0A = some 0x1C5FFF7C0A := by decide

theorem test_adp2_on_variantA : rowAnswer .variantA 0x3031323334383030300D0A = some 0x1C5FFF7C1A := by decide

theorem test_adp3 :
    decodeTableWord 88 0x30313233343A3030300D0A = some (.adp3 0 ⟨1, 2, 3, 4, 0, 0, 0⟩) ∧
    rowAnswer .unknown 0x30313233343A3030300D0A = some 0x1D5FFF7C0A := by decide

theorem test_adp3_on_variantA : rowAnswer .variantA 0x30313233343A3030300D0A = some 0x1D5FFF7C1A := by decide

/-! ### Flags (vectors of 95_test_vectors.md, E5, E7, part 2.4) -/

/-- `FRAME VOLT.4 3210 OL SIGN`: the sentinel, not negated. -/
theorem test_overflow_over_sign :
    (after (step (State.reset.withFetchWord 88 0x34333231303B3530300D0A))).sample.value = .sent ∧
    (after (step (State.reset.withFetchWord 88 0x34333231303B3530300D0A))).sample.sNeg = false := by decide

/-- `FRAME VOLT.4 3210 SIGN`: -0.3210. -/
theorem test_sign_negates :
    (after (step (State.reset.withFetchWord 88 0x34333231303B3430300D0A))).sample.value = .dec true 3210 (-4) := by decide

/-- `FRAME TEMP 0000 BATT JUDGE HOLD DC AUTO OL` on VARIANT_A: every flag output at 1. -/
theorem test_every_flag : rowAnswer .variantA 0x3030303030343B323A0D0A = some 0x1A5FFF7FF8 := by decide

/-- `o2 = 0xE`, AUTO AC DC: AC wins. -/
theorem test_ac_wins :
    (after (step (State.reset.withFetchWord 88 0x30313233343B30303E0D0A))).sample.sDcMode = false ∧
    (after (step (State.reset.withFetchWord 88 0x30313233343B30303E0D0A))).sample.sAutoMode = true := by decide

/-! ### Bad frames (vectors of 95_test_vectors.md, parts 2.2 and 2.3) -/

theorem test_digit_over_bound : rowCause 0x30353030303B3030300D0A = some .invalidDigits := by decide
theorem test_digit_nibble : rowCause 0x30213233343B3030300D0A = some .invalidDigits := by decide
theorem test_unused_function : rowCause 0x3031323334373030300D0A = some .invalidFunction := by decide
theorem test_option_nibble : rowCause 0x30313233343B3000300D0A = some .invalidStatusOption := by decide
theorem test_swapped_terminator : rowCause 0x30313233343B3030300A0D = some .invalidTerminator := by decide
theorem test_range_without_row : rowCause 0x35313233343B3030300D0A = some .invalidRange := by decide
theorem test_range_nibble_without_table : rowCause 0xB031323334383030300D0A = some .invalidRange := by decide
theorem test_terminator_before_range : rowCause 0x35313233343B3030300D00 = some .invalidTerminator := by decide

/-! ### Commands (R76; tables 2.6, 2.7 and 2.8 of 95_test_vectors.md) -/

theorem test_commands_decode :
    decodeTableWord 4 0x0 = some .reserved0 ∧ decodeTableWord 4 0x1 = some (.init .unknown) ∧
    decodeTableWord 4 0x9 = some (.init .variantA) ∧ decodeTableWord 4 0x2 = some .sync ∧
    decodeTableWord 4 0x3 = some .acqNb ∧ decodeTableWord 4 0x4 = some .acqB ∧ decodeTableWord 4 0x5 = some .discard ∧
    decodeTableWord 4 0x6 = some .teardown ∧ decodeTableWord 4 0x7 = some .reserved7 := by decide

/-- The board bit is not examined by the other commands (R76). -/
theorem test_board_bit_ignored :
    decodeTableWord 4 0xA = some .sync ∧ decodeTableWord 4 0xE = some .teardown ∧
    decodeTableWord 4 0x8 = some .reserved0 := by decide

theorem test_init : answered (exec (.init .variantA) { broken with tape := [openTurn (.ok [1, 2])] }) =
    some (.ok, .none, .unsynced, 0, 2, .variantA) := by decide

/-- INIT that waits for `TOpen` keeps the result outputs (R32); every register is at its reset value (R200). -/
theorem test_init_waits :
    after (exec (.init .variantA) { broken with rCode := .lostSync, rCause := .invalidRange }) =
      { State.reset with rCode := .lostSync, rCause := .invalidRange, phase := .opening .variantA } := by decide

theorem test_init_fails : answered (exec (.init .variantA) { broken with tape := [openTurn .fail] }) =
    some (.initFailure, .none, .closed, 0, 0, .unknown) := by decide

/-- `0D 31 0A 0D 0A`: the later pair matches, one byte in each turn. -/
theorem test_sync : answered (exec .sync { live with q := [1], tape := feed 5 [0x0D, 0x31, 0x0A, 0x0D, 0x0A] }) =
    some (.ok, .none, .synced, 0, 0, .unknown) := by decide

/-- `Now()` 0, 3000 with the pair in `Q`: the deadline is checked first. -/
theorem test_sync_late : answered (exec .sync { ready with cnt := 4, tape := [pollTurn [0x0D, 0x0A] 3000 (.deliver 1)] }) =
    some (.syncTimeout, .none, .unsynced, 0, 2, .unknown) := by decide

/-- ACQ.NB, polls 5, 0: `WouldBlock`, the partial frame is kept. -/
theorem test_acqNb_partial :
    answered (exec .acqNb { ready with tape := [pollTurn voltFrame.toList 1 (.deliver 5), pollTurn [] 2 (.deliver 0)] }) =
    some (.wouldBlock, .none, .synced, 5, 6, .unknown) := by decide

/-- ACQ.NB, polls 6, Fail: the bytes appended before the failure stay. -/
theorem test_acqNb_fails :
    answered (exec .acqNb { ready with tape := [pollTurn voltFrame.toList 1 (.deliver 6), pollTurn [] 2 .fail] }) =
    some (.transportFailure, .none, .failed, 6, 5, .unknown) := by decide

/-- ACQ.B, polls 3, 0, 0, 8: the frame is complete. -/
theorem test_acqB_retries :
    after (exec .acqB { ready with
      q := voltFrame.toList
      tape := [pollTurn [] 1 (.deliver 3), pollTurn [] 2 (.deliver 0), pollTurn [] 3 (.deliver 0),
        pollTurn [] 4 (.deliver 8)] }) = { caught .blocking voltFrame with now := 4 } := by decide

theorem test_discard_empty : answered (exec .discard { ready with tape := [pollTurn [] 1 (.deliver 11)] }) =
    some (.ok, .none, .synced, 0, 0, .unknown) := by decide

/-- A partial frame forces a resynchronisation. -/
theorem test_discard_partial :
    answered (exec .discard { ready with
      q := [0x30]
      tape := pollTurn [] 1 (.deliver 11) :: pollTurn [] 2 (.deliver 11) :: feed 3 [0x0D, 0x0A] }) =
    some (.ok, .none, .synced, 0, 0, .unknown) := by decide

theorem test_teardown : answered (exec .teardown { broken with q := [1, 2] }) =
    some (.ok, .none, .closed, 0, 2, .unknown) := by decide

theorem test_teardown_closed : answered (exec .teardown State.reset) = some (.noSession, .none, .closed, 0, 0, .unknown) := by
  decide

theorem test_reserved0 : answered (exec .reserved0 broken) = some (.badCommand, .none, .failed, 3, 0, .unknown) := by decide
theorem test_reserved7 : answered (exec .reserved7 ready) = some (.badCommand, .none, .synced, 0, 0, .unknown) := by decide

/-! ### Witnesses: for each obligation with hypotheses, a concrete case that meets them -/

theorem test_witness_ResetInputAbandonsTheCommand :
    ({ ready with phase := .scanning, tape := [resetTurn] } : State).tape = resetTurn :: [] ∧ resetTurn.rst = true := by
  decide

/-- A SYNC and a waiting ACQ.B that meet `rst` after one turn. -/
theorem test_witness_ResetInputAbandonsTheCommand_stops :
    (exec .sync { live with tape := [pollTurn [CR] 1 (.deliver 1), resetTurn, pollTurn [LF] 1 (.deliver 1)] } =
      .next (after (exec .sync { live with tape := [pollTurn [CR] 1 (.deliver 1), resetTurn, pollTurn [LF] 1 (.deliver 1)] }))) ∧
    (after (exec .sync { live with tape := [pollTurn [CR] 1 (.deliver 1), resetTurn, pollTurn [LF] 1 (.deliver 1)] })).tape =
      [resetTurn, pollTurn [LF] 1 (.deliver 1)] ∧
    (after (resume { ready with
      phase := .gathering .blocking, tape := [pollTurn [CR] 1 (.deliver 1), resetTurn] })).tape = [resetTurn] ∧
    ({ ready with phase := .gathering .blocking, tape := [pollTurn [CR] 1 (.deliver 1), resetTurn] } : State).rstPending =
      false := ⟨rfl, by decide, by decide, by decide⟩

theorem test_witness_CommandWordsDecodeByOp : ∀ k : Fin 8, ∃ op : BitVec 3, op.toNat = k.val := by decide

theorem test_witness_DecodeUndoesEncode :
    cfgRef.valid = true ∧ (Instr.cap6 payMax).wf = true ∧ (Instr.init .variantA).wf = true := by decide

theorem test_witness_EncodeUndoesDecode :
    cfgRef.valid = true ∧ cfgRef.rangeNibbleAlways = true ∧ decodeFrame cfgRef voltFrame = .ok (.volt0 pay) := by
  decide

theorem test_witness_EveryCandidateIsGoodOrHasOneCause :
    cfgRef.valid = true ∧ cfgRef.rangeNibbleAlways = true ∧
    decodeFrame cfgRef voltFrame = .ok (.volt0 pay) ∧
    decodeFrame cfgRef (frameOf 0 0xB ⟨5, 0, 0, 0, 0, 0, 0⟩) = .error .invalidDigits ∧
    decodeFrame cfgRef (frameOf 0 0x7 pay) = .error .invalidFunction ∧
    decodeFrame cfgRef (voltFrame.set 8 0x70) = .error .invalidStatusOption ∧
    decodeFrame cfgRef (voltFrame.set 10 0x0D) = .error .invalidTerminator ∧
    decodeFrame cfgRef (frameOf 5 0xB pay) = .error .invalidRange := by decide

theorem test_witness_RangeNibbleIsCheckedForEveryFunction :
    cfgRef.valid = true ∧ ({ cfgRef with rangeNibbleAlways := false } : Cfg).valid = true ∧
    cfgRef.rangeNibbleAlways = true ∧
    validate cfgRef (voltFrame.set 0 0x20) = none ∧ (voltFrame.set 0 0x20)[5] = structural (cfgRef.code .volt) ∧
    hiNib (voltFrame.set 0 0x20)[0] ≠ 3 ∧ Func.volt.hasRanges = true ∧
    validate cfgRef ((frameOf 0 0x4 pay).set 0 0x20) = none ∧
    ((frameOf 0 0x4 pay).set 0 0x20)[5] = structural (cfgRef.code .temp) ∧ Func.temp.hasRanges = false := by decide

theorem test_witness_StepRunsTheOfferedCommand :
    ready.phase = .idle ∧ ({ ready with tape := [commandTurn 5 9] } : State).tape = commandTurn 5 9 :: [] ∧
    (commandTurn 5 9).rst = false ∧ (commandTurn 5 9).cmd = some 5 := by decide

theorem test_witness_StepRunsTheCapturedFrame :
    (caught .blocking voltFrame).phase = .captured .blocking ∧
    (∀ t ∈ (caught .blocking voltFrame).tape.head?, t.rst = false) ∧
    decodeFrame (caught .blocking voltFrame).cfg (caught .blocking voltFrame).x = .ok (.volt0 pay) := by decide

theorem test_witness_BadFrameLosesSync :
    (caught .drain (frameOf 5 0xB pay)).phase = .captured .drain ∧
    (∀ t ∈ (caught .drain (frameOf 5 0xB pay)).tape.head?, t.rst = false) ∧
    decodeFrame cfgRef (caught .drain (frameOf 5 0xB pay)).x = .error .invalidRange := by decide

theorem test_witness_IdleBlockDoesNothing :
    ready.phase = .idle ∧ ready.tape = [] ∧ (pollTurn [1] 9 .fail).rst = false ∧ (pollTurn [1] 9 .fail).cmd = none := by
  decide

/-- A running SYNC that meets an offered command. -/
def scanningOffered : State := { live with phase := .scanning, tape := [commandTurn 6 9] }

theorem test_witness_OffersAreIgnoredWhileACommandRuns :
    scanningOffered.phase ≠ .idle ∧ step scanningOffered = .next (after (step scanningOffered)) ∧
    (after (step scanningOffered)).phase = .scanning := ⟨by decide, rfl, by decide⟩

theorem test_witness_WaitingForMoreTurnsIsInvisible :
    (exec .sync { live with tape := [pollTurn [] 1 (.deliver 1)] } =
      .next (after (exec .sync { live with tape := [pollTurn [] 1 (.deliver 1)] })) ∧
     (after (exec .sync { live with tape := [pollTurn [] 1 (.deliver 1)] })).tape = [] ∧
     (after (exec .sync { live with tape := [pollTurn [] 1 (.deliver 1)] })).phase = .scanning) ∧
    (∀ i ∈ [Instr.acqNb, .acqB, .discard],
      (after (exec i { ready with tape := [pollTurn [0x30] 1 (.deliver 1)] })).tape = [] ∧
      ∃ a, (after (exec i { ready with tape := [pollTurn [0x30] 1 (.deliver 1)] })).phase = .gathering a) ∧
    (exec (.init .variantA) { ready with tape := [] } = .next (after (exec (.init .variantA) { ready with tape := [] })) ∧
      (after (exec (.init .variantA) { ready with tape := [] })).tape = [] ∧
      ∃ b, (after (exec (.init .variantA) { ready with tape := [] })).phase = .opening b) := by
  refine ⟨⟨rfl, by decide, by decide⟩, ?_, rfl, by decide, .variantA, by decide⟩
  intro i hi
  simp only [List.mem_cons, List.not_mem_nil, or_false] at hi
  rcases hi with rfl | rfl | rfl
  · exact ⟨by decide, .nonblocking, by decide⟩
  · exact ⟨by decide, .blocking, by decide⟩
  · exact ⟨by decide, .drain, by decide⟩

/-- A waiting ACQ.B: no turn, a turn with `rst`, a poll. -/
def waitingB (ts : List Turn) : State := { ready with phase := .gathering .blocking, tape := ts }

theorem test_witness_WaitingForMoreTurnsIsInvisible_resumed :
    (waitingB []).phase.waits ∧ (waitingB []).mode = .synced ∧ (waitingB []).cnt.toNat ≤ 10 ∧
    (waitingB []).rstPending = false ∧ (waitingB [resetTurn]).rstPending = true ∧
    (after (step (waitingB [pollTurn [0x30] 1 (.deliver 1)]))).cnt = 1 ∧
    (after (step (waitingB [pollTurn [0x30] 1 (.deliver 1)]))).phase.waits :=
  ⟨.inr (.inl ⟨.blocking, rfl⟩), by decide, by decide, by decide, by decide, by decide, .inr (.inl ⟨.blocking, rfl⟩)⟩

/-- For the statements about decode rows: a state, the payloads at the digit bounds, and the range nibbles next to the
tables' ends. -/
theorem test_witness_rows :
    ready.cfg.valid = true ∧ ready.cfg = cfgRef ∧ ready.phase ≠ .captured .drain ∧
    (caught .blocking voltFrame).phase ≠ .captured .drain ∧ pay.wf = true ∧ payMax.wf = true ∧
    (4 < (5 : Nibble).toNat ∧ 1 < (2 : Nibble).toNat ∧ 5 < (6 : Nibble).toNat ∧ 6 < (7 : Nibble).toNat ∧
      6 < (15 : Nibble).toNat) := by decide

theorem test_witness_AuxiliaryRowsDependOnTheBoard :
    ready.board = .unknown ∧ ({ ready with board := .variantA } : State).board = .variantA := by decide

theorem test_witness_DiscardDropsEveryGoodFrame :
    (Instr.temp 0xF pay).payload? = some pay ∧ (caught .drain voltFrame).phase = .captured .drain := by decide

theorem test_witness_FlagsInClosedForm :
    (∀ m e, Val.sent ≠ .dec true m e) ∧ (∀ m e, decimal pay (-3) ≠ .dec true m e) := by simp [decimal]

theorem test_witness_OverflowTakesPrecedenceOverSign :
    flagBit payFlags.st cfgRef.bitOL = true ∧ flagBit pay.st cfgRef.bitOL = false ∧
    ((-16 : Int) ≤ -16 ∧ (-16 : Int) < 16) ∧ ((-16 : Int) ≤ 15 ∧ (15 : Int) < 16) := by decide

theorem test_witness_AcWinsOverDc :
    (flagBit 0x0 cfgRef.bitDC = false ∧ flagBit 0x0 cfgRef.bitAC = false) ∧
    (flagBit 0x8 cfgRef.bitDC = true ∧ flagBit 0x8 cfgRef.bitAC = false) ∧
    (flagBit 0x4 cfgRef.bitDC = false ∧ flagBit 0x4 cfgRef.bitAC = true) ∧
    (flagBit 0xC cfgRef.bitDC = true ∧ flagBit 0xC cfgRef.bitAC = true) := by decide

/-- `x[7] = 0x3D` and `x[8] = 0x31` differ from 0x30 in meaningless bits only. -/
theorem test_witness_MeaninglessBitsDoNotChangeTheSample :
    (caught .blocking voltFrame).phase = .captured .blocking ∧
    (∀ t ∈ (caught .blocking voltFrame).tape.head?, t.rst = false) ∧
    hiNib 0x3D = hiNib voltFrame[7] ∧ hiNib 0x31 = hiNib voltFrame[8] ∧
    flagBit (loNib 0x3D) cfgRef.bitHOLD = flagBit (loNib voltFrame[7]) cfgRef.bitHOLD ∧
    flagBit (loNib 0x31) cfgRef.bitDC = flagBit (loNib voltFrame[8]) cfgRef.bitDC ∧
    flagBit (loNib 0x31) cfgRef.bitAC = flagBit (loNib voltFrame[8]) cfgRef.bitAC ∧
    flagBit (loNib 0x31) cfgRef.bitAUTO = flagBit (loNib voltFrame[8]) cfgRef.bitAUTO := by decide

theorem test_witness_CountsAreTheFourDigits :
    validate cfgRef (frameOf 0 0xB payMax) = none ∧ payMax = framePayload (frameOf 0 0xB payMax) ∧
    validate cfgRef (frameOf 0 0xB ⟨0, 0, 0, 0, 0, 0, 0⟩) = none := by decide

theorem test_witness_PlacementsFollowTheDivisorLadder :
    payMax.wf = true ∧ (⟨0, 0, 0, 0, 0, 0, 0⟩ : Payload).wf = true := by decide

theorem test_witness_FunctionBytePassesThrough :
    (caught .nonblocking voltFrame).cfg.valid = true ∧ Acq.nonblocking ≠ .drain ∧
    (∀ t ∈ (caught .nonblocking voltFrame).tape.head?, t.rst = false) ∧
    decodeFrame (caught .nonblocking voltFrame).cfg voltFrame = .ok (.volt0 pay) := by decide

/-- Both clauses: the last row of VOLT, and the first code without a row. -/
theorem test_witness_RangeTableGivesTheExponent :
    validate cfgRef (frameOf 4 0xB pay) = none ∧ hiNib (frameOf 4 0xB pay)[0] = 3 ∧
    (frameOf 4 0xB pay)[5] = structural (cfgRef.code .volt) ∧ Func.volt.hasRanges = true ∧
    cfgRef.lut .volt 4 = some ⟨4, .p2, -3⟩ ∧ flagBit (loNib (frameOf 4 0xB pay)[6]) cfgRef.bitOL = false ∧
    validate cfgRef (frameOf 5 0xB pay) = none ∧ hiNib (frameOf 5 0xB pay)[0] = 3 ∧ cfgRef.lut .volt 5 = none := by decide

/-- A state in which INIT waits for `TOpen`. -/
def opening (ts : List Turn) : State := { State.reset with phase := .opening .variantA, tape := ts }

/-- All clauses: the answer in the next turn, no answer yet, `rst` instead of one, and the resumed step with each. -/
theorem test_witness_InitOpensTheSession :
    (openTurn (.ok [1])).rst = false ∧ (openTurn (.ok [1])).topen = .ok [1] ∧ (openTurn .fail).topen = .fail ∧
    (openTurn .fail).rst = false ∧ ready.tape = [] ∧ ({ ready with tape := [resetTurn] } : State).rstPending = true ∧
    (opening []).phase = .opening .variantA ∧ (opening []).tape = [] ∧
    (opening [openTurn .fail]).tape = openTurn .fail :: [] := by decide

/-- The resumed step answers. -/
theorem test_init_resumed :
    answered (step (opening [openTurn (.ok [1, 2])])) = some (.ok, .none, .unsynced, 0, 2, .variantA) ∧
    answered (step (opening [openTurn .fail])) = some (.initFailure, .none, .closed, 0, 0, .unknown) :=
  ⟨by decide, by decide⟩

theorem test_witness_TeardownReleasesTheTransport : broken.opened = true ∧ State.reset.opened = false := by decide

theorem test_witness_ModesRefuseCommands :
    State.reset.mode = .closed ∧ broken.mode = .failed ∧ live.mode = .unsynced := by decide

theorem test_witness_SyncFindsTheFirstTerminator :
    live.opened = true ∧ live.failed = false ∧ 0 < live.cfg.deadline live.board ∧ NoPair [CR, 0x31, LF, CR] := by
  refine ⟨by decide, by decide, by decide, ?_⟩
  unfold NoPair
  decide

/-- A SYNC taken at time 100 that scans on, with the bytes `bs` queued. -/
def scanAt (prevCr : Bool) (bs : List Byte) (t : Turn) : State :=
  { live with t0 := 100, phase := .scanning, prevCr := prevCr, q := bs, tape := [t] }

/-- The deadline at its boundary, from a running scan and from a SYNC just taken. -/
theorem test_witness_SyncChecksTheDeadlineBeforeThePoll :
    (scanAt false [] (pollTurn [] 3100 .fail)).phase = .scanning ∧ (pollTurn [] 3100 .fail).rst = false ∧
    (scanAt false [] (pollTurn [] 3100 .fail)).cfg.deadline (scanAt false [] (pollTurn [] 3100 .fail)).board ≤
      ((pollTurn [] 3100 .fail).now - (scanAt false [] (pollTurn [] 3100 .fail)).t0).toNat ∧
    ((pollTurn [] 3099 .fail).now - (scanAt false [] (pollTurn [] 3099 .fail)).t0).toNat <
      (scanAt false [] (pollTurn [] 3099 .fail)).cfg.deadline (scanAt false [] (pollTurn [] 3099 .fail)).board ∧
    (pollTurn [] 3099 .fail).rx = .fail ∧ live.opened = true ∧ live.failed = false ∧
    live.cfg.deadline live.board ≤ ((pollTurn [] 3000 .fail).now - live.now).toNat ∧
    ((pollTurn [] 2999 .fail).now - live.now).toNat < live.cfg.deadline live.board := by decide

/-- The polls in time: an empty poll, an empty queue, `LF` after `CR`, `LF` alone, `CR` after `CR`. -/
theorem test_witness_SyncChecksTheDeadlineBeforeThePoll_bytes :
    (pollTurn [] 3099 (.deliver 0)).rx = .deliver 0 ∧
    (scanAt true [] (pollTurn [] 3099 (.deliver 1))).queueAfter (pollTurn [] 3099 (.deliver 1)) = [] ∧
    (scanAt true [LF] (pollTurn [] 3099 (.deliver 1))).queueAfter (pollTurn [] 3099 (.deliver 1)) = LF :: [] ∧
    ((scanAt true [LF] (pollTurn [] 3099 (.deliver 1))).prevCr = true ∧ LF = LF) ∧
    ¬ ((scanAt false [LF] (pollTurn [] 3099 (.deliver 1))).prevCr = true ∧ LF = LF) ∧
    ¬ ((scanAt true [CR] (pollTurn [] 3099 (.deliver 1))).prevCr = true ∧ CR = LF) := by decide

/-- A later iteration: in time at 2999 ms after `t0`, late at 3000 ms with the pair's `LF` in `Q`. -/
theorem test_sync_later_iteration :
    answered (step (scanAt true [LF] (pollTurn [] 3099 (.deliver 1)))) = some (.ok, .none, .synced, 0, 0, .unknown) ∧
    answered (step (scanAt true [LF] (pollTurn [] 3100 (.deliver 1)))) =
      some (.syncTimeout, .none, .unsynced, 0, 1, .unknown) := ⟨by decide, by decide⟩

theorem test_witness_SyncEndsInOneOfThreeWays : live.opened = true ∧ live.failed = false := by decide

/-- A tape on which SYNC ends `OK`, entered in the middle of a well-formed frame. -/
def midFrame : State := { live with tape := feed 5 (voltFrame.toList.drop 4 ++ voltFrame.toList) }

theorem test_witness_SyncOkConsumesThroughTheFirstPair :
    midFrame.opened = true ∧ midFrame.failed = false ∧ exec .sync midFrame = .next (after (exec .sync midFrame)) ∧
    (after (exec .sync midFrame)).phase = .idle ∧ (after (exec .sync midFrame)).rCode = .ok :=
  ⟨by decide, by decide, rfl, by decide, by decide⟩

theorem test_witness_SyncEndsAlignedOnAWellFormedStream :
    (∀ f ∈ [voltFrame.toList, voltFrame.toList], WireFrame f) ∧
    arrivals midFrame.tape = [voltFrame.toList, voltFrame.toList].flatten.drop 4 := by
  refine ⟨?_, by decide⟩
  intro f hf
  have : f = voltFrame.toList := by simpa using hf
  subst this
  exact ⟨voltFrame.toList.take 9, by decide, by decide, by decide⟩

/-- Partial polls at the bounds: 1 byte and 10 bytes with none held, 1 byte with 9 held. -/
theorem test_witness_OnePollCompletesTheFrame_partial :
    1 = min 1 (ready.queueAfter (pollTurn voltFrame.toList 1 (.deliver 1))).length ∧ 1 < 11 - ready.cnt.toNat ∧
    10 = min 10 (ready.queueAfter (pollTurn voltFrame.toList 1 (.deliver 10))).length ∧ 10 < 11 - ready.cnt.toNat ∧
    ({ ready with cnt := 9 } : State).mode = .synced ∧ 1 < 11 - ({ ready with cnt := 9 } : State).cnt.toNat ∧
    1 = min 11 (({ ready with cnt := 9 } : State).queueAfter (pollTurn [CR] 1 (.deliver 11))).length := by decide

/-- Two polls of 5 and 6 bytes complete the frame in one ACQ.NB (R105 (b)). -/
theorem test_acqNb_polls_again :
    after (exec .acqNb { ready with
      q := voltFrame.toList, tape := [pollTurn [] 1 (.deliver 5), pollTurn [] 2 (.deliver 6)] }) =
      { caught .nonblocking voltFrame with now := 2 } := by decide

/-- The boundary values of `cnt`: 0 and 10. -/
theorem test_witness_OnePollCompletesTheFrame :
    ready.mode = .synced ∧ ready.cnt.toNat ≤ 10 ∧ (pollTurn voltFrame.toList 1 (.deliver 11)).rst = false ∧
    11 - ready.cnt.toNat ≤ 11 ∧ 11 - ready.cnt.toNat ≤ (ready.queueAfter (pollTurn voltFrame.toList 1 (.deliver 11))).length ∧
    ({ ready with cnt := 10 } : State).mode = .synced ∧ ({ ready with cnt := 10 } : State).cnt.toNat ≤ 10 ∧
    11 - ({ ready with cnt := 10 } : State).cnt.toNat ≤ 1 ∧
    11 - ({ ready with cnt := 10 } : State).cnt.toNat ≤
      (({ ready with cnt := 10 } : State).queueAfter (pollTurn [0x0A] 1 (.deliver 1))).length := by decide

theorem test_witness_EmptyPollEndsOnlyTheNonblocking :
    ready.mode = .synced ∧ ready.queueAfter (pollTurn [] 1 (.deliver 11)) = [] ∧ ready.cnt = 0 ∧
    (pollTurn [] 1 (.deliver 11)).rst = false ∧
    ({ ready with cnt := 10 } : State).mode = .synced ∧ ({ ready with cnt := 10 } : State).cnt ≠ 0 := by decide

theorem test_witness_FailingPollEndsTheAcquisition :
    ready.mode = .synced ∧ ready.cnt.toNat ≤ 10 ∧ (pollTurn [1] 1 .fail).rst = false ∧ (pollTurn [1] 1 .fail).rx = .fail := by
  decide

/-- A complete frame, by ACQ.B and by DISCARD, and a partial one. -/
theorem test_witness_AccumulatorKeepsTheByteOrder :
    (after (exec .discard { ready with tape := [pollTurn voltFrame.toList 1 (.deliver 11)] })).phase = .captured .drain ∧
    (after (exec .acqB { ready with tape := [pollTurn voltFrame.toList 1 (.deliver 11)] })).phase = .captured .blocking ∧
    (after (exec .acqNb { ready with tape := [pollTurn [0x30] 1 (.deliver 11), pollTurn [] 2 (.deliver 1)] })).phase = .idle := by
  decide

theorem test_witness_BlockingAcquisitionNeverAnswersWouldBlock :
    exec .acqB { ready with tape := [pollTurn [] 1 .fail] } =
      .next (after (exec .acqB { ready with tape := [pollTurn [] 1 .fail] })) ∧
    (after (exec .acqB { ready with tape := [pollTurn [] 1 .fail] })).phase = .idle ∧
    step { ready with phase := .gathering .blocking, tape := [pollTurn [] 1 .fail] } =
      .next (after (step { ready with phase := .gathering .blocking, tape := [pollTurn [] 1 .fail] })) ∧
    (after (step { ready with phase := .gathering .blocking, tape := [pollTurn [] 1 .fail] })).phase = .idle :=
  ⟨rfl, by decide, rfl, by decide⟩

theorem test_witness_AcquisitionRunsTheEncodedRow :
    ready.cfg.valid = true ∧ (Instr.volt0 pay).payload? = some pay ∧ (Instr.volt0 pay).wf = true ∧ ready.mode = .synced ∧
    ready.phase = .idle ∧ ready.cnt = 0 ∧
    ({ ready with q := voltFrame.toList ++ [0x30] } : State).q = encode ready.cfg (.volt0 pay) ++ [0x30] := by decide

theorem test_witness_DiscardDrainsWholeFrames :
    (∀ i ∈ [Instr.volt0 pay, .adp3 0xF payMax], i.payload?.isSome = true ∧ i.wf = true) ∧ ready.mode = .synced ∧
    ready.phase = .idle ∧ ready.cnt = 0 := by decide

/-- A step from a state with the invariant: a session closed by TEARDOWN. -/
theorem test_witness_EveryStepKeepsTheInvariant :
    Sys2Proof.Machine.Inv { ready with tape := [commandTurn 6 9] } ∧
    step { ready with tape := [commandTurn 6 9] } = .next (after (step { ready with tape := [commandTurn 6 9] })) ∧
    (after (step { ready with tape := [commandTurn 6 9] })).mode = .closed := ⟨by decide, rfl, by decide⟩

theorem test_witness_NoRunStops : Sys2Proof.Machine.Inv { ready with cnt := 10, phase := .gathering .drain } := by decide

/-- Both clauses: a scan that ends, and a SYNC that ends at once. -/
theorem test_witness_OnlyASuccessfulSyncSynchronises :
    Sys2Proof.Machine.Inv { live with phase := .scanning, tape := feed 5 [CR, LF] } ∧
    (after (step { live with phase := .scanning, tape := feed 5 [CR, LF] })).synced = true := by decide

theorem test_witness_OnlyASuccessfulSyncSynchronises_atOnce :
    Sys2Proof.Machine.Inv { live with tape := commandTurn 2 5 :: feed 5 [CR, LF] } ∧
    (after (step { live with tape := commandTurn 2 5 :: feed 5 [CR, LF] })).synced = true := by decide

/-- CLOSED left, by an INIT taken and by one that waited. -/
theorem test_witness_ModesChangeOnlyAsTheTableAllows_closed_left :
    Sys2Proof.Machine.Inv { State.reset with tape := [commandTurn 1 5, openTurn (.ok [])] } ∧
    (after (step { State.reset with tape := [commandTurn 1 5, openTurn (.ok [])] })).mode = .unsynced ∧
    (after (step (opening [openTurn (.ok [])]))).mode = .unsynced := by decide

/-- The same from the waiting INIT. -/
theorem test_witness_ModesChangeOnlyAsTheTableAllows_opening :
    Sys2Proof.Machine.Inv (opening [openTurn (.ok [])]) ∧ (opening [openTurn (.ok [])]).mode = .closed := by decide

/-- CLOSED entered: by the reset input, by TEARDOWN, by an INIT that waits and by one that fails. -/
theorem test_witness_ModesChangeOnlyAsTheTableAllows_closed_entered :
    Sys2Proof.Machine.Inv { ready with tape := [resetTurn] } ∧
    ({ ready with tape := [resetTurn] } : State).rstPending = true ∧
    (after (step { ready with tape := [resetTurn] })).mode = .closed ∧
    (after (step { broken with tape := [commandTurn 6 9] })).mode = .closed ∧
    (after (step { ready with tape := [commandTurn 1 9] })).phase = .opening .unknown ∧
    (after (step { ready with tape := [commandTurn 1 9] })).mode = .closed ∧
    (after (step { ready with tape := [commandTurn 1 9, openTurn .fail] })).rCode = .initFailure := by decide

/-- FAILED left by an INIT OK and by TEARDOWN, and entered. -/
theorem test_witness_ModesChangeOnlyAsTheTableAllows_failed :
    Sys2Proof.Machine.Inv { broken with tape := [commandTurn 1 5, openTurn (.ok [])] } ∧
    (after (step { broken with tape := [commandTurn 1 5, openTurn (.ok [])] })).mode = .unsynced ∧
    (after (step { broken with tape := [commandTurn 6 9] })).mode = .closed ∧
    (after (step { ready with tape := [commandTurn 4 5, pollTurn [] 5 .fail] })).mode = .failed := by decide

/-- SYNCED entered. -/
theorem test_witness_ModesChangeOnlyAsTheTableAllows_synced_entered :
    Sys2Proof.Machine.Inv { live with tape := commandTurn 2 5 :: feed 5 [CR, LF] } ∧
    (after (step { live with tape := commandTurn 2 5 :: feed 5 [CR, LF] })).mode = .synced := by decide

/-- SYNCED left: LostSync, SyncTimeout, a scan under way, an INIT OK. -/
theorem test_witness_ModesChangeOnlyAsTheTableAllows_synced_left :
    Sys2Proof.Machine.Inv (caught .blocking (frameOf 5 0xB pay)) ∧
    (after (step (caught .blocking (frameOf 5 0xB pay)))).rCode = .lostSync ∧
    (after (step (caught .blocking (frameOf 5 0xB pay)))).mode = .unsynced ∧
    (after (step { ready with tape := [commandTurn 2 5, pollTurn [] 3005 .fail] })).mode = .unsynced ∧
    (after (step { ready with tape := [commandTurn 2 5] })).phase = .scanning ∧
    (after (step { ready with tape := [commandTurn 1 5, openTurn (.ok [])] })).mode = .unsynced := by decide

/-- The commands taken: TEARDOWN and an INIT, in FAILED mode. -/
theorem test_witness_takes :
    State.takes { broken with tape := [commandTurn 6 9] } .teardown ∧
    State.takes { broken with tape := [commandTurn 9 9] } (.init .variantA) :=
  ⟨⟨by decide, by decide, commandTurn 6 9, [], 6, by decide⟩, ⟨by decide, by decide, commandTurn 9 9, [], 9, by decide⟩⟩

theorem test_witness_ParametersNeverChange :
    step { ready with tape := [resetTurn] } = .next (after (step { ready with tape := [resetTurn] })) := rfl

theorem test_witness_OnlyTheAccumulatorWritesTheFrameBuffer :
    (after (step { ready with phase := .gathering .blocking, tape := [pollTurn [0x31] 1 (.deliver 1)] })).x ≠ ready.x ∧
    (after (step { caught .drain voltFrame with tape := [resetTurn] })).x ≠ voltFrame ∧
    (after (step { ready with x := voltFrame, tape := [commandTurn 6 9] })).x ≠ voltFrame := by decide

theorem test_witness_PollsDeliverAPrefix : (1 : Nat) ≤ 11 ∧ 1 ≤ [CR].length ∧ (0 : Nat) ≤ ([] : List Byte).length := by decide

theorem test_witness_PlacedInstructionRunsNext :
    ready.cfg = cfgRef ∧ decodeTableWord 88 0x30313233343B3030300D0A = some (.volt0 pay) ∧
    decodeTableWord 8 0xF = some .reserved7 ∧ 0xF < 16 := by decide

/-- A command taken, and one under way. -/
theorem test_witness_active :
    State.active { ready with tape := [commandTurn 3 5, pollTurn [] 5 .fail] } ∧ (caught .blocking voltFrame).active :=
  ⟨.inr ⟨.acqNb, by decide, by decide, commandTurn 3 5, [pollTurn [] 5 .fail], 3, by decide⟩, .inl (by decide)⟩

/-- `failed` set and cleared. -/
theorem test_witness_FailedBoardAndOutputsChangeOnlyAtTheirEvents_failed :
    ready.failed = false ∧ broken.failed = true ∧
    (after (step { ready with tape := [commandTurn 3 5, pollTurn [] 5 .fail] })).failed = true ∧
    (after (step { broken with tape := [commandTurn 1 5, openTurn (.ok [])] })).failed = false ∧
    (after (step { broken with tape := [resetTurn] })).failed = false := by decide

/-- `board` written by an INIT, taken or resumed, and reset by TEARDOWN; outputs that a command's end changes. -/
theorem test_witness_FailedBoardAndOutputsChangeOnlyAtTheirEvents_board :
    (after (step { ready with tape := [commandTurn 9 5, openTurn (.ok [])] })).board = .variantA ∧
    (after (step (opening [openTurn (.ok [])]))).board = .variantA ∧
    (after (step { ready with board := .variantA, tape := [commandTurn 6 5] })).board = .unknown ∧
    (after (step (caught .blocking voltFrame))).sample ≠ (caught .blocking voltFrame).sample := by decide

end Sys2Proof.Tests
end

section
/-! PROOFS of 00_scope.md: where the next instruction comes from (R18), O9, O10 and O58. The step has one equation for a
command offered to an idle block (46_session_ops.md R75, R207) and one for a captured good frame (R206); the decoder's
reading of the table's bits (30_encoding.md R61, R76) meets them where `withFetchWord` puts those bits. -/

namespace Sys2Proof.Machine

/-! ### The step, by the source of its instruction -/

/-- No reset comes next exactly when no turn at the head of the tape asserts it (R250). -/
theorem State.rstPending_eq_false_iff (s : State) : s.rstPending = false ↔ ∀ t ∈ s.tape.head?, t.rst = false := by
  unfold State.rstPending
  cases s.tape with
  | nil => simp
  | cons t rest => simp

/-- An idle block takes the offered command, with `r_valid` fallen, and runs it (R75, R207). -/
theorem step_of_idle_command (s : State) (t : Turn) (rest : List Turn) (w : Nibble) (hp : s.phase = .idle)
    (ht : s.tape = t :: rest) (hr : t.rst = false) (hc : t.cmd = some w) :
    step s = exec (decodeCommand w) { s.observe t rest with rValid := false } := by
  have hrst : s.rstPending = false := by simp [State.rstPending_eq_false_iff, ht, hr]
  have hoffer : s.nextOffer = .command w { s.observe t rest with rValid := false } := by
    simp [State.nextOffer, ht, hc]
  simp [step, hrst, hp, hoffer]

/-- A captured good frame runs as its decode row (R206). -/
theorem step_of_captured_ok (s : State) (a : Acq) (i : Instr) (hr : s.rstPending = false) (hp : s.phase = .captured a)
    (hd : decodeFrame s.cfg s.x = .ok i) : step s = exec i s := by
  simp [step, hr, hp, hd]

/-- Settles O9: the equation of the step for an offered command, with the turn's arrivals and time written out. -/
theorem stepRunsTheOfferedCommand : Obligations.StepRunsTheOfferedCommand :=
  fun s t rest w hp ht hr hc => step_of_idle_command s t rest w hp ht hr hc

/-- Settles O10: the equation of the step for a captured good frame. -/
theorem stepRunsTheCapturedFrame : Obligations.StepRunsTheCapturedFrame :=
  fun s a i hp ht hd => step_of_captured_ok s a i ((State.rstPending_eq_false_iff s).2 ht) hp hd

/-! ### The decoder's reading of the table's bits -/

/-- The decoder reads the bytes of a frame, in wire order, as the block reads the captured frame (R60, R81). -/
theorem decode_toList_eq_ok_iff (c : Cfg) (F : Frame) (i : Instr) :
    decode c F.toList = .ok i ↔ decodeFrame c F = .ok i := by
  obtain ⟨b0, b1, b2, b3, b4, b5, b6, b7, b8, b9, b10, rfl⟩ :
      ∃ b0 b1 b2 b3 b4 b5 b6 b7 b8 b9 b10, F = #v[b0, b1, b2, b3, b4, b5, b6, b7, b8, b9, b10] :=
    ⟨F[0], F[1], F[2], F[3], F[4], F[5], F[6], F[7], F[8], F[9], F[10], by
      ext k hk
      interval_cases k <;> rfl⟩
  cases hd : decodeFrame c #v[b0, b1, b2, b3, b4, b5, b6, b7, b8, b9, b10] <;> simp [decode, hd]

/-- The table's bits are an instruction exactly when the decoder accepts their bytes under `CFG_REF`. -/
theorem decodeTableWord_eq_some_iff (nbits w : Nat) (i : Instr) :
    decodeTableWord nbits w = some i ↔ decode cfgRef (tableBytes nbits w) = .ok i := by
  unfold decodeTableWord
  cases decode cfgRef (tableBytes nbits w) <;> simp

/-- An 88-bit table word is the decode row of its frame (R61). -/
theorem decodeTableWord_frame_iff (w : Nat) (i : Instr) :
    decodeTableWord 88 w = some i ↔ decodeFrame cfgRef (frameOfWord w) = .ok i := by
  rw [decodeTableWord_eq_some_iff, ← decode_toList_eq_ok_iff]
  simp [tableBytes]

/-- The upper nibble of a byte below 16 is zero, and the lower one is the number (R76). -/
theorem nibbles_of_lt (w : Nat) (h : w < 16) :
    hiNib (BitVec.ofNat 8 w) = 0 ∧ loNib (BitVec.ofNat 8 w) = BitVec.ofNat 4 w := by
  interval_cases w <;> decide

/-- A table word of a command is the command of its four bits (R76). -/
theorem decodeTableWord_command (w : Nat) (h : w < 16) :
    decodeTableWord 8 w = some (decodeCommand (BitVec.ofNat 4 w)) := by
  obtain ⟨hhi, hlo⟩ := nibbles_of_lt w h
  have hbytes : tableBytes 8 w = [BitVec.ofNat 8 w] := by simp [tableBytes, show w < 256 by omega]
  rw [decodeTableWord_eq_some_iff, hbytes]
  simp [decode, hhi, hlo]

/-! ### The placed instruction -/

/-- The step after a command word is placed runs the command; the quiet turn that offers it brings no bytes and no time
(log 6). -/
theorem step_placeCommand (s : State) (w : Nibble) :
    step (s.placeCommand w) = exec (decodeCommand w) { s with phase := .idle, rValid := false } := by
  rw [step_of_idle_command (s.placeCommand w) (quietTurn s (some w)) s.tape w rfl rfl rfl rfl]
  simp [State.observe, State.placeCommand, quietTurn]

/-- The step after a good frame is placed runs its decode row. -/
theorem step_placeFrame (s : State) (F : Frame) (i : Instr) (hd : decodeFrame s.cfg F = .ok i) :
    step (s.placeFrame F) = exec i (s.placeFrame F) :=
  step_of_captured_ok (s.placeFrame F) .nonblocking i rfl rfl hd

/-- Settles O58: a row's 88 bits are placed as a captured frame, a command's as an offered word; each is decoded there
as the table's decoder decodes it. -/
theorem placedInstructionRunsNext : Obligations.PlacedInstructionRunsNext := by
  intro s w i hcfg
  constructor
  · intro hw
    have hd : decodeFrame s.cfg (frameOfWord w) = .ok i := hcfg ▸ (decodeTableWord_frame_iff w i).1 hw
    exact step_placeFrame s (frameOfWord w) i hd
  · intro hlt hw
    obtain rfl : decodeCommand (BitVec.ofNat 4 w) = i := by
      rw [decodeTableWord_command w hlt] at hw
      exact Option.some.inj hw
    exact step_placeCommand s (BitVec.ofNat 4 w)

end Sys2Proof.Machine
end

section
/-! PROOFS of 10_state.md: the whole-machine rules, O1, O50 to O53, O55, O56 and O60. First what each loop and each
step can do, as relations between the state before and the state after (`ScanEnds`, `GatherEnds`, `OpenEnds`,
`StepsTo`); then every rule is a case split over them. -/

namespace Sys2Proof.Machine

/-! ### The mode, in terms of the registers it is a function of (R35) -/

theorem State.mode_eq_closed_iff (s : State) : s.mode = .closed ↔ s.opened = false := by
  unfold State.mode; split_ifs <;> simp_all

theorem State.mode_eq_failed_iff (s : State) : s.mode = .failed ↔ s.opened = true ∧ s.failed = true := by
  unfold State.mode; split_ifs <;> simp_all

theorem State.mode_eq_synced_iff (s : State) :
    s.mode = .synced ↔ s.opened = true ∧ s.failed = false ∧ s.synced = true := by
  unfold State.mode; split_ifs <;> simp_all

theorem State.mode_eq_unsynced_iff (s : State) :
    s.mode = .unsynced ↔ s.opened = true ∧ s.failed = false ∧ s.synced = false := by
  unfold State.mode; split_ifs <;> simp_all

/-- An error never sets `synced` (R221 to R226). -/
theorem State.synced_of_raise_synced (s : State) (e : Err) (h : (s.raise e).synced = true) : s.synced = true := by
  cases e with
  | lostSync c =>
    by_cases hc : c = .notSynced
    · subst hc; exact h
    · rw [State.raise_lostSync_synced s c hc] at h; cases h
  | _ => exact h

/-! ### How the scan ends -/

/-- `u` is `s` but for what a scan that goes on may change: the scanner's memory, `Q`, the time base, the turns. -/
def ScanFrame (s u : State) : Prop :=
  ∃ cr q now tape, u = { s with prevCr := cr, q := q, now := now, tape := tape }

/-- The states a scan from `s` can lead to (R110, R114 to R116). -/
inductive ScanEnds (s : State) : State → Prop
  | waits {u : State} (hu : ScanFrame s u) : ScanEnds s u
  | late {u : State} (hu : ScanFrame s u) : ScanEnds s (u.raise .syncTimeout)
  | lost {u : State} (hu : ScanFrame s u) : ScanEnds s (u.raise .transportFailure)
  | found {u : State} (hu : ScanFrame s u) (hcr : u.prevCr = true) : ScanEnds s u.resynced

theorem scan_ends (ts : List Turn) (s : State) : ScanEnds s (scan ts s) := by
  refine scan_induct (ScanFrame s) (ScanEnds s) ?turn ?poll ?memory (fun _ h => .waits h) (fun _ h _ => .late h)
    (fun _ h => .lost h) (fun _ h hcr => .found h hcr) ts s ⟨_, _, _, _, rfl⟩
  case turn => rintro _ t rest ⟨_, _, _, _, rfl⟩; exact ⟨_, _, _, _, rfl⟩
  case poll => rintro _ rx ⟨_, _, _, _, rfl⟩; exact ⟨_, _, _, _, rfl⟩
  case memory => rintro _ b ⟨_, _, _, _, rfl⟩; exact ⟨_, _, _, _, rfl⟩

/-! ### How the Accumulator ends -/

/-- `u` is `s` but for what an acquisition that goes on may change: the frame buffer with a `cnt` of at most 10, `Q`,
the time base, the turns. -/
def GatherFrame (s u : State) : Prop :=
  ∃ x cnt q now tape, cnt.toNat ≤ 10 ∧ u = { s with x := x, cnt := cnt, q := q, now := now, tape := tape }

/-- The states the Accumulator can lead to from `s` for the command `a` (R100 to R106, R204). -/
inductive GatherEnds (a : Acq) (s : State) : State → Prop
  | waits {u : State} (hu : GatherFrame s u) : GatherEnds a s u
  | lost {u : State} (hu : GatherFrame s u) : GatherEnds a s (u.raise .transportFailure)
  | wouldBlock {u : State} (hu : GatherFrame s u) : GatherEnds a s (u.raise .wouldBlock)
  | drained {u : State} (hu : GatherFrame s u) : GatherEnds a s u.respondOk
  | resync {u t : State} (hu : GatherFrame s u) (ht : ScanEnds u.startSync t) : GatherEnds a s t
  | full {u : State} (hu : GatherFrame s u) : GatherEnds a s { u with cnt := 0, phase := .captured a }

theorem gather_ends (a : Acq) (ts : List Turn) (s : State) (hc : s.cnt.toNat ≤ 10) :
    GatherEnds a s (gather a ts s) := by
  refine gather_induct a (GatherFrame s) (GatherEnds a s) ?small ?turn ?empty ?grow (fun _ h => .waits h)
    ?lost (fun _ h _ => .wouldBlock h) ?drained ?full ts s ⟨_, _, _, _, _, hc, rfl⟩
  case small => rintro _ ⟨_, _, _, _, _, h, rfl⟩; exact h
  case turn => rintro _ t rest ⟨_, _, _, _, _, h, rfl⟩; exact ⟨_, _, _, _, _, h, rfl⟩
  case empty => rintro _ rx ⟨_, _, _, _, _, h, rfl⟩ -; exact ⟨_, _, _, _, _, h, rfl⟩
  case grow =>
    rintro u rx b bs ⟨_, _, _, _, _, h, rfl⟩ hp hle
    have hn := (append_cnt _ rx _ h hp).1
    exact ⟨_, _, _, _, _, hn ▸ hle, rfl⟩
  case lost => rintro _ rx ⟨_, _, _, _, _, h, rfl⟩ -; exact .lost ⟨_, _, _, _, _, h, rfl⟩
  case drained =>
    intro u hu _
    unfold endDrain
    split
    · exact .resync hu (scan_ends _ _)
    · exact .drained hu
  case full =>
    rintro u rx b bs ⟨x, cnt, _, _, _, h, rfl⟩ - -
    exact .full (u := { s with x := writeBytes x cnt.toNat (b :: bs), q := _, now := _, tape := _ })
      ⟨_, _, _, _, _, by simpa using hc, rfl⟩

/-! ### How a waiting INIT ends -/

/-- The states a wait for `TOpen` from `s` can lead to (R200). -/
inductive OpenEnds (b : Board) (s : State) : State → Prop
  | waits : OpenEnds b s s
  | fails (t : Turn) (rest : List Turn) : OpenEnds b s ((s.observe t rest).raise .initFailure)
  | opens (t : Turn) (rest : List Turn) (q0 : List Byte) :
      OpenEnds b s { (s.observe t rest).tOpened q0 with board := b, opened := true }.respondOk

theorem awaitOpen_ends (b : Board) (s : State) : OpenEnds b s (awaitOpen b s) := by
  rcases awaitOpen_cases b s with ⟨-, h⟩ | ⟨t, rest, -, -, -, h⟩ | ⟨t, rest, q0, -, -, -, h⟩ <;> rw [h]
  · exact .waits
  · exact .fails t rest
  · exact .opens t rest q0

/-! ### What a command does -/

/-- The command that runs the Accumulator in the way `a` (R202 to R204). -/
def Acq.command : Acq → Instr
  | .nonblocking => .acqNb
  | .blocking => .acqB
  | .drain => .discard

/-- The errors a command is refused with before it does anything, and the mode of each (R208, R209). -/
inductive Refused (s : State) : Err → Prop
  | reserved : Refused s .badCommand
  | closed (h : s.mode = .closed) : Refused s .noSession
  | failed (h : s.mode = .failed) : Refused s .transportFailure
  | unsynced (h : s.mode = .unsynced) : Refused s (.lostSync .notSynced)

/-- Everything a command taken in `s` can do (R200 to R209). -/
inductive CommandDoes (s : State) : Instr → Host.Outcome State Fault Refusal → Prop
  | refuse (i : Instr) {e : Err} (he : Refused s e) : CommandDoes s i (.next (s.raise e))
  | init (b : Board) :
      CommandDoes s (.init b) (.next (awaitOpen b { s.startInit b with link := s.link && !s.opened }))
  | sync (ho : s.opened = true) (hf : s.failed = false) : CommandDoes s .sync (.next (synchronize s))
  | acquire (a : Acq) (hm : s.mode = .synced) : CommandDoes s a.command (accumulate a s)
  | teardown (ho : s.opened = true) : CommandDoes s .teardown (.next s.tClose.blockReset.respondOk)

/-- SYNC runs in a live session, synchronised or not (R201, R208). -/
theorem sync_does (s : State) : CommandDoes s .sync (execSync s) := by
  unfold execSync
  rcases whenLive_cases s fun s => .next (synchronize s) with ⟨hm, h⟩ | ⟨hm, h⟩ | ⟨hm, h⟩ <;> rw [h]
  · exact .refuse _ (.closed hm)
  · exact .refuse _ (.failed hm)
  · rw [State.mode_eq_synced_iff, State.mode_eq_unsynced_iff] at hm
    exact .sync (hm.elim (·.1) (·.1)) (hm.elim (·.2.1) (·.2.1))

/-- An acquisition runs in SYNCED mode only (R206, R208). -/
theorem acquire_does (a : Acq) (s : State) : CommandDoes s a.command (whenLive s (acquire a)) := by
  rcases whenLive_cases s (acquire a) with ⟨hm, h⟩ | ⟨hm, h⟩ | ⟨hm, h⟩
  · rw [h]; exact .refuse _ (.closed hm)
  · rw [h]; exact .refuse _ (.failed hm)
  · rcases hm with hm | hm
    · rw [whenLive_acquire_synced a s hm]; exact .acquire a hm
    · have hs : s.synced = false := ((State.mode_eq_unsynced_iff s).1 hm).2.2
      rw [h, acquire, if_pos hs]
      exact .refuse _ (.unsynced hm)

/-- TEARDOWN runs in every mode but CLOSED (R205, R208). -/
theorem teardown_does (s : State) : CommandDoes s .teardown (execTeardown s) := by
  unfold execTeardown
  split
  · rename_i ho; exact .refuse _ (.closed ((State.mode_eq_closed_iff s).2 ho))
  · rename_i ho; exact .teardown (by simpa using ho)

theorem exec_command_does (i : Instr) (hi : i.payload? = none) (s : State) : CommandDoes s i (exec i s) := by
  cases i <;> simp only [Instr.payload?, reduceCtorEq] at hi
  case init b =>
    change CommandDoes s _ (execInit b s)
    rw [execInit_eq]
    exact .init b
  case sync => exact sync_does s
  case acqNb => exact acquire_does .nonblocking s
  case acqB => exact acquire_does .blocking s
  case discard => exact acquire_does .drain s
  case teardown => exact teardown_does s
  case reserved0 => exact .refuse _ .reserved
  case reserved7 => exact .refuse _ .reserved

/-- The host's word is a command, never a decode row (R76). -/
theorem decodeCommand_payload (w : Nibble) : (decodeCommand w).payload? = none := by
  revert w; decide

/-! ### What a step does -/

/-- `s` after the turn in which an offered command is taken: the environment had its turn and `r_valid` fell (R75). -/
@[simps]
def State.taken (s : State) : State :=
  { s with rValid := false, q := s.q ++ arrivals (s.tape.take 1), now := (s.tape.head?.map (·.now)).getD s.now,
           tape := s.tape.tail }

theorem State.taken_eq (s : State) (t : Turn) (rest : List Turn) (ht : s.tape = t :: rest) :
    s.taken = { s.observe t rest with rValid := false } := by
  simp [State.taken, State.observe, arrivals, ht]

theorem step_of_takes (s : State) (i : Instr) (h : s.takes i) : step s = exec i s.taken := by
  obtain ⟨hr, hp, t, rest, w, ht, hc, rfl⟩ := h
  have hrst : t.rst = false := (State.rstPending_eq_false_iff s).1 hr t (by simp [ht])
  rw [step_of_idle_command s t rest w hp ht hrst hc, State.taken_eq s t rest ht]

/-- The digit bounds of a payload (R122). -/
theorem payload_wf_iff (p : Payload) :
    p.wf = true ↔ p.d3.toNat ≤ 4 ∧ p.d2.toNat ≤ 9 ∧ p.d1.toNat ≤ 9 ∧ p.d0.toNat ≤ 9 := by
  simp [Payload.wf, and_assoc]

/-- A good frame's digits are within their bounds (R122). -/
theorem framePayload_wf_of_validate (c : Cfg) (F : Frame) (h : validate c F = none) : (framePayload F).wf = true := by
  unfold validate at h
  split_ifs at h with h1 h2 h3
  simp only [framePayload, payload_wf_iff]
  omega

/-- Everything a step that goes on can do. -/
inductive StepsTo (s : State) : State → Prop
  | reset (hr : s.rstPending = true) (t : Turn) (rest : List Turn) : StepsTo s (s.observe t rest).blockReset
  | silent (hp : s.phase = .idle) : StepsTo s s
  | pause (hp : s.phase = .idle) (t : Turn) (rest : List Turn) : StepsTo s (s.observe t rest)
  | refuse {i : Instr} (hi : s.takes i) {e : Err} (he : Refused s.taken e) : StepsTo s (s.taken.raise e)
  | init {b : Board} {t : State} (hi : s.takes (.init b))
      (ht : OpenEnds b { s.taken.startInit b with link := s.link && !s.opened } t) : StepsTo s t
  | opening {b : Board} {t : State} (hp : s.phase = .opening b) (ht : OpenEnds b s t) : StepsTo s t
  | sync {t : State} (hi : s.takes .sync) (ho : s.opened = true) (hf : s.failed = false)
      (ht : ScanEnds s.taken.startSync t) : StepsTo s t
  | scanning {t : State} (hp : s.phase = .scanning) (ht : ScanEnds s t) : StepsTo s t
  | acquire {a : Acq} {t : State} (hi : s.takes a.command) (hm : s.mode = .synced)
      (ht : GatherEnds a { s.taken with phase := .gathering a } t) : StepsTo s t
  | gathering {a : Acq} {t : State} (hp : s.phase = .gathering a) (ht : GatherEnds a s t) : StepsTo s t
  | bad {a : Acq} (hp : s.phase = .captured a) {c : Cause} (hc : c ≠ .none) (hn : c ≠ .notSynced) :
      StepsTo s (s.raise (.lostSync c))
  | dropped (hp : s.phase = .captured .drain) : StepsTo s { s with phase := .gathering .drain }
  | answered {a : Acq} (hp : s.phase = .captured a) (f : Func) {v : Val} {p : Payload} (hw : p.wf = true)
      (hv : RowVal p v) : StepsTo s (s.respond .ok .none (frameSample s.cfg s.board f v p))
  | teardown (hi : s.takes .teardown) (ho : s.opened = true) : StepsTo s s.taken.tClose.blockReset.respondOk

/-- A command that goes on is one of the cases of a step. -/
theorem stepsTo_of_takes (s t : State) (i : Instr) (hi : s.takes i) (h : exec i s.taken = .next t) : StepsTo s t := by
  have hpay : i.payload? = none := by
    obtain ⟨-, -, -, -, w, -, -, rfl⟩ := hi
    exact decodeCommand_payload w
  have hdoes := exec_command_does i hpay s.taken
  rw [h] at hdoes
  generalize ho : Host.Outcome.next t = o at hdoes
  cases hdoes with
  | refuse i he => cases ho; exact .refuse hi he
  | init b => cases ho; exact .init hi (awaitOpen_ends _ _)
  | sync hopen hf => cases ho; exact .sync hi hopen hf (scan_ends _ _)
  | acquire a hm =>
    obtain ⟨hc, rfl⟩ := (accumulate_next a s.taken t).1 ho.symm
    exact .acquire hi hm (gather_ends _ _ _ hc)
  | teardown hopen => cases ho; exact .teardown hi hopen

/-- A captured good frame that goes on is dropped or answered (R204, R206). -/
theorem stepsTo_of_captured_ok (s t : State) (a : Acq) (i : Instr) (hp : s.phase = .captured a)
    (hd : decodeFrame s.cfg s.x = .ok i) (h : exec i s = .next t) : StepsTo s t := by
  obtain ⟨f, v, he, hv⟩ := exec_row i _ (decodeFrame_payload _ _ _ hd) s
  have hw := framePayload_wf_of_validate _ _ ((decodeFrame_ok _ _ _).1 hd).1
  rw [he] at h
  rcases completeFrame_cases f v (framePayload s.x) s with ⟨hdr, hn⟩ | ⟨-, hn⟩ <;> rw [hn] at h <;> cases h
  · exact .dropped hdr
  · exact .answered hp f hw hv

/-- The reset input ends its turn with every register of the block at its reset value (R250). -/
theorem State.applyRst_of_rstPending (s : State) (h : s.rstPending = true) :
    ∃ t rest, s.applyRst = (s.observe t rest).blockReset := by
  unfold State.rstPending at h
  unfold State.applyRst
  cases hs : s.tape with
  | nil => simp [hs] at h
  | cons t rest => exact ⟨t, rest, rfl⟩

theorem step_stepsTo (s t : State) (h : step s = .next t) : StepsTo s t := by
  rcases step_cases s with ⟨hr, he⟩ | ⟨-, hp, -, he⟩ | ⟨-, hp, u, rest, -, -, he⟩ | ⟨hr, hp, u, rest, w, ht, hc, -⟩ |
    ⟨-, a, c, hp, hd, he⟩ | ⟨-, a, i, hp, hd, he⟩ | ⟨-, b, hp, he⟩ | ⟨-, hp, he⟩ | ⟨-, a, hp, he⟩
  · obtain ⟨u, rest, hu⟩ := State.applyRst_of_rstPending s hr
    cases he.symm.trans h
    exact hu ▸ .reset hr u rest
  · cases he.symm.trans h; exact .silent hp
  · cases he.symm.trans h; exact .pause hp u rest
  · have hi : s.takes (decodeCommand w) := ⟨hr, hp, u, rest, w, ht, hc, rfl⟩
    exact stepsTo_of_takes s t _ hi (step_of_takes s _ hi ▸ h)
  · cases he.symm.trans h
    obtain ⟨hc, hn⟩ := decodeFrame_cause _ _ _ hd
    exact .bad hp hc hn
  · exact stepsTo_of_captured_ok s t a i hp hd (he.symm.trans h)
  · cases he.symm.trans h; exact .opening hp (awaitOpen_ends b s)
  · cases he.symm.trans h; exact .scanning hp (scan_ends _ s)
  · obtain ⟨hc, rfl⟩ := (accumulate_next a s t).1 (he.symm.trans h)
    exact .gathering hp (hp ▸ gather_ends a s.tape s hc)

/-! ### The reset state (R39, R250) -/

/-- Settles O1: the buffer byte by byte, then the other registers and the outputs, each a closed fact. -/
theorem resetLeavesTheBlockClosed : Obligations.ResetLeavesTheBlockClosed := by
  unfold Obligations.ResetLeavesTheBlockClosed
  refine ⟨?buffer, ?others⟩
  case buffer => decide
  case others => decide

/-- Settles O50: every clause is a closed fact of the reset state. -/
theorem invariantHoldsAtReset : Obligations.InvariantHoldsAtReset := by
  unfold Obligations.InvariantHoldsAtReset
  decide

/-! ### The parameters (R37, R251) -/

theorem ScanEnds.cfg_eq {s t : State} (h : ScanEnds s t) : t.cfg = s.cfg := by
  cases h with
  | waits hu | late hu | lost hu | found hu =>
    obtain ⟨_, _, _, _, rfl⟩ := hu
    simp

theorem GatherEnds.cfg_eq {a : Acq} {s t : State} (h : GatherEnds a s t) : t.cfg = s.cfg := by
  cases h with
  | waits hu | lost hu | wouldBlock hu | drained hu | full hu =>
    obtain ⟨_, _, _, _, _, -, rfl⟩ := hu
    simp
  | resync hu ht =>
    obtain ⟨_, _, _, _, _, -, rfl⟩ := hu
    exact ht.cfg_eq

theorem OpenEnds.cfg_eq {b : Board} {s t : State} (h : OpenEnds b s t) : t.cfg = s.cfg := by
  cases h <;> simp

theorem StepsTo.cfg_eq {s t : State} (h : StepsTo s t) : t.cfg = s.cfg := by
  cases h with
  | init _ ht => exact ht.cfg_eq
  | opening _ ht => exact ht.cfg_eq
  | sync _ _ _ ht => exact ht.cfg_eq
  | scanning _ ht => exact ht.cfg_eq
  | acquire _ _ ht => exact ht.cfg_eq
  | gathering _ ht => exact ht.cfg_eq
  | reset | silent | pause | refuse | bad | dropped | answered | teardown => simp

/-- Settles O55: no case of a step writes `cfg`. -/
theorem parametersNeverChange : Obligations.ParametersNeverChange :=
  fun s t h => (step_stepsTo s t h).cfg_eq

/-! ### The frame buffer (R22, R108) -/

theorem ScanEnds.x_eq {s t : State} (h : ScanEnds s t) : t.x = s.x := by
  cases h with
  | waits hu | late hu | lost hu | found hu =>
    obtain ⟨_, _, _, _, rfl⟩ := hu
    simp

theorem OpenEnds.x_eq {b : Board} {s t : State} (h : OpenEnds b s t) : t.x = s.x := by
  cases h <;> simp

/-- A command taken by an idle block, in the words of the statements about it. -/
theorem State.takes.idle_word {s : State} {i : Instr} (h : s.takes i) :
    s.phase = .idle ∧ ∃ u rest w, s.tape = u :: rest ∧ u.cmd = some w ∧ decodeCommand w = i :=
  ⟨h.2.1, h.2.2⟩

/-- Settles O56: only the cases that may write `x` are left, each named by its command. -/
theorem onlyTheAccumulatorWritesTheFrameBuffer : Obligations.OnlyTheAccumulatorWritesTheFrameBuffer := by
  intro s t h hx
  cases step_stepsTo s t h with
  | reset hr => exact .inl hr
  | gathering hp => exact .inr (.inl ⟨_, hp⟩)
  | init hi =>
    obtain ⟨hp, u, rest, w, ht, hc, hw⟩ := hi.idle_word
    exact .inr (.inr ⟨hp, u, rest, w, ht, hc, .inr ⟨_, hw⟩⟩)
  | @acquire a _ hi =>
    obtain ⟨hp, u, rest, w, ht, hc, hw⟩ := hi.idle_word
    exact .inr (.inr ⟨hp, u, rest, w, ht, hc, .inl (by rw [hw]; cases a <;> simp [Acq.command])⟩)
  | teardown hi =>
    obtain ⟨hp, u, rest, w, ht, hc, hw⟩ := hi.idle_word
    exact .inr (.inr ⟨hp, u, rest, w, ht, hc, .inl (by simp [hw])⟩)
  | opening _ ht => exact absurd ht.x_eq hx
  | sync _ _ _ ht => exact absurd ht.x_eq hx
  | scanning _ ht => exact absurd ht.x_eq hx
  | silent | pause | refuse | bad | dropped | answered => simp at hx

/-! ### `failed`, `board` and the result outputs (R27, R28, R32) -/

/-- `failed` stays as it was, or the command ended with a TransportFailure (R27). -/
def KeepsOrFails (s t : State) : Prop :=
  t.failed = s.failed ∨ (t.failed = true ∧ t.phase = .idle ∧ t.rValid = true ∧ t.rCode = .transportFailure)

/-- The result outputs stay as they were, or a command ended with a response (R32). -/
def KeepsOrAnswers (s t : State) : Prop :=
  (t.phase = .idle ∧ t.rValid = true) ∨ (t.rCode = s.rCode ∧ t.rCause = s.rCause ∧ t.sample = s.sample)

theorem keepsOrFails_raise (s : State) (e : Err) : KeepsOrFails s (s.raise e) := by
  by_cases he : e = .transportFailure
  · subst he; exact .inr ⟨rfl, rfl, rfl, rfl⟩
  · exact .inl (State.raise_failed_of_ne s e he)

theorem ScanEnds.keepsOrFails {s t : State} (h : ScanEnds s t) : KeepsOrFails s t := by
  cases h with
  | waits hu => obtain ⟨_, _, _, _, rfl⟩ := hu; exact .inl rfl
  | found hu => obtain ⟨_, _, _, _, rfl⟩ := hu; exact .inl rfl
  | late hu => obtain ⟨_, _, _, _, rfl⟩ := hu; exact .inl rfl
  | lost hu => exact .inr ⟨rfl, rfl, rfl, rfl⟩

theorem ScanEnds.keepsOrAnswers {s t : State} (h : ScanEnds s t) : KeepsOrAnswers s t := by
  cases h with
  | waits hu => obtain ⟨_, _, _, _, rfl⟩ := hu; exact .inr ⟨rfl, rfl, rfl⟩
  | late | lost | found => exact .inl ⟨rfl, rfl⟩

theorem ScanEnds.board_eq {s t : State} (h : ScanEnds s t) : t.board = s.board := by
  cases h with
  | waits hu | late hu | lost hu | found hu =>
    obtain ⟨_, _, _, _, rfl⟩ := hu
    simp

theorem GatherEnds.keepsOrFails {a : Acq} {s t : State} (h : GatherEnds a s t) : KeepsOrFails s t := by
  cases h with
  | lost hu => exact .inr ⟨rfl, rfl, rfl, rfl⟩
  | waits hu | wouldBlock hu | drained hu | full hu => obtain ⟨_, _, _, _, _, -, rfl⟩ := hu; exact .inl rfl
  | resync hu ht => obtain ⟨_, _, _, _, _, -, rfl⟩ := hu; exact ht.keepsOrFails

theorem GatherEnds.keepsOrAnswers {a : Acq} {s t : State} (h : GatherEnds a s t) : KeepsOrAnswers s t := by
  cases h with
  | waits hu | full hu => obtain ⟨_, _, _, _, _, -, rfl⟩ := hu; exact .inr ⟨rfl, rfl, rfl⟩
  | lost | wouldBlock | drained => exact .inl ⟨rfl, rfl⟩
  | resync hu ht => obtain ⟨_, _, _, _, _, -, rfl⟩ := hu; exact ht.keepsOrAnswers

theorem GatherEnds.board_eq {a : Acq} {s t : State} (h : GatherEnds a s t) : t.board = s.board := by
  cases h with
  | waits hu | lost hu | wouldBlock hu | drained hu | full hu =>
    obtain ⟨_, _, _, _, _, -, rfl⟩ := hu
    simp
  | resync hu ht =>
    obtain ⟨_, _, _, _, _, -, rfl⟩ := hu
    exact ht.board_eq

theorem OpenEnds.failed_eq {b : Board} {s t : State} (h : OpenEnds b s t) : t.failed = s.failed := by
  cases h <;> rfl

theorem OpenEnds.keepsOrAnswers {b : Board} {s t : State} (h : OpenEnds b s t) : KeepsOrAnswers s t := by
  cases h with
  | waits => exact .inr ⟨rfl, rfl, rfl⟩
  | fails | opens => exact .inl ⟨rfl, rfl⟩

/-- INIT writes `board` only when it ends with OK, from its operand (R28, R200). -/
theorem OpenEnds.board_cases {b : Board} {s t : State} (h : OpenEnds b s t) :
    t.board = s.board ∨ (t.phase = .idle ∧ t.rCode = .ok ∧ t.board = b) := by
  cases h with
  | waits | fails => exact .inl rfl
  | opens => exact .inr ⟨rfl, rfl, rfl⟩

theorem State.takes.active {s : State} {i : Instr} (h : s.takes i) : s.active := .inr ⟨i, h⟩

theorem State.active_of_phase {s : State} {p : Phase} (h : s.phase = p) (hp : p ≠ .idle) : s.active := .inl (h ▸ hp)

/-- What resets the block: the reset input, TEARDOWN or INIT (R39, R200, R205, R250). -/
def State.resets (s : State) : Prop := s.rstPending = true ∨ s.takes .teardown ∨ ∃ b, s.takes (.init b)

/-- A step resets the block, or `failed` stays, or a command that ran or was taken ended with a TransportFailure. -/
theorem StepsTo.failed_cases {s t : State} (h : StepsTo s t) :
    (s.resets ∧ t.failed = false) ∨ t.failed = s.failed ∨ (s.active ∧ KeepsOrFails s t) := by
  cases h with
  | reset hr => exact .inl ⟨.inl hr, rfl⟩
  | init hi ht => exact .inl ⟨.inr (.inr ⟨_, hi⟩), ht.failed_eq⟩
  | teardown hi => exact .inl ⟨.inr (.inl hi), rfl⟩
  | opening hp ht => exact .inr (.inl ht.failed_eq)
  | refuse hi => exact .inr (.inr ⟨hi.active, keepsOrFails_raise s.taken _⟩)
  | sync hi _ _ ht => exact .inr (.inr ⟨hi.active, ht.keepsOrFails⟩)
  | acquire hi _ ht => exact .inr (.inr ⟨hi.active, ht.keepsOrFails⟩)
  | scanning hp ht => exact .inr (.inr ⟨State.active_of_phase hp nofun, ht.keepsOrFails⟩)
  | gathering hp ht => exact .inr (.inr ⟨State.active_of_phase hp nofun, ht.keepsOrFails⟩)
  | bad hp => exact .inr (.inr ⟨State.active_of_phase hp nofun, keepsOrFails_raise s _⟩)
  | silent | pause | dropped | answered => exact .inr (.inl rfl)

/-- `board` stays, or is reset with the block, or an INIT ended with OK and wrote its operand (R28). -/
theorem StepsTo.board_cases {s t : State} (h : StepsTo s t) :
    (t.board = .unknown ∧ s.resets) ∨ t.board = s.board ∨
      (t.phase = .idle ∧ t.rCode = .ok ∧ (s.takes (.init t.board) ∨ s.phase = .opening t.board)) := by
  cases h with
  | reset hr => exact .inl ⟨rfl, .inl hr⟩
  | teardown hi => exact .inl ⟨rfl, .inr (.inl hi)⟩
  | init hi ht =>
    rcases ht.board_cases with hb | ⟨hp, hc, rfl⟩
    · exact .inl ⟨hb, .inr (.inr ⟨_, hi⟩)⟩
    · exact .inr (.inr ⟨hp, hc, .inl hi⟩)
  | opening hp ht =>
    rcases ht.board_cases with hb | ⟨hidle, hc, rfl⟩
    · exact .inr (.inl hb)
    · exact .inr (.inr ⟨hidle, hc, .inr hp⟩)
  | sync _ _ _ ht => exact .inr (.inl ht.board_eq)
  | scanning _ ht => exact .inr (.inl ht.board_eq)
  | acquire _ _ ht => exact .inr (.inl ht.board_eq)
  | gathering _ ht => exact .inr (.inl ht.board_eq)
  | silent | pause | refuse | bad | dropped | answered => exact .inr (.inl (by simp))

/-- The result outputs change at the reset input, or where a command that ran or was taken ends (R32). -/
theorem StepsTo.output_cases {s t : State} (h : StepsTo s t) :
    s.rstPending = true ∨ (s.active ∧ KeepsOrAnswers s t) ∨
      (t.rCode = s.rCode ∧ t.rCause = s.rCause ∧ t.sample = s.sample) := by
  cases h with
  | reset hr => exact .inl hr
  | refuse hi => exact .inr (.inl ⟨hi.active, .inl ⟨rfl, rfl⟩⟩)
  | teardown hi => exact .inr (.inl ⟨hi.active, .inl ⟨rfl, rfl⟩⟩)
  | init hi ht => exact .inr (.inl ⟨hi.active, ht.keepsOrAnswers⟩)
  | sync hi _ _ ht => exact .inr (.inl ⟨hi.active, ht.keepsOrAnswers⟩)
  | acquire hi _ ht => exact .inr (.inl ⟨hi.active, ht.keepsOrAnswers⟩)
  | opening hp ht => exact .inr (.inl ⟨State.active_of_phase hp nofun, ht.keepsOrAnswers⟩)
  | scanning hp ht => exact .inr (.inl ⟨State.active_of_phase hp nofun, ht.keepsOrAnswers⟩)
  | gathering hp ht => exact .inr (.inl ⟨State.active_of_phase hp nofun, ht.keepsOrAnswers⟩)
  | bad hp => exact .inr (.inl ⟨State.active_of_phase hp nofun, .inl ⟨rfl, rfl⟩⟩)
  | answered hp => exact .inr (.inl ⟨State.active_of_phase hp nofun, .inl ⟨rfl, rfl⟩⟩)
  | silent | pause | dropped => exact .inr (.inr ⟨rfl, rfl, rfl⟩)

/-- Settles O60, clause by clause from what a step does to `failed`, to `board` and to the outputs. -/
theorem failedBoardAndOutputsChangeOnlyAtTheirEvents :
    Obligations.FailedBoardAndOutputsChangeOnlyAtTheirEvents := by
  intro s t h
  have hst := step_stepsTo s t h
  refine ⟨fun hs ht => ?set, fun hs ht => ?cleared, fun hb => ?board, ?outputs⟩
  case set =>
    rcases hst.failed_cases with ⟨-, hf⟩ | hf | ⟨ha, hf | ⟨-, hends⟩⟩
    · simp [hf] at ht
    · simp [hf, hs] at ht
    · simp [hf, hs] at ht
    · exact ⟨ha, hends⟩
  case cleared =>
    rcases hst.failed_cases with ⟨hr, -⟩ | hf | ⟨-, hf | ⟨hf, -⟩⟩
    · exact hr
    · simp [hf, hs] at ht
    · simp [hf, hs] at ht
    · simp [hf] at ht
  case board =>
    rcases hst.board_cases with hr | hk | hw
    · exact .inl hr
    · exact absurd hk hb
    · exact .inr hw
  case outputs =>
    rcases hst.output_cases with hr | ⟨ha, ⟨hp, hv⟩ | hk⟩ | hk
    · exact .inl hr
    · exact .inr (.inl ⟨ha, hp, hv⟩)
    · exact .inr (.inr hk)
    · exact .inr (.inr hk)

/-! ### No step stops (R23, R84, R101) -/

theorem accumulate_goes (a : Acq) (s : State) (hc : s.cnt.toNat ≤ 10) : Goes (accumulate a s) :=
  ⟨_, (accumulate_next a s _).2 ⟨hc, rfl⟩⟩

/-- With `cnt` at most 10 every command goes on. -/
theorem CommandDoes.goes {s : State} {i : Instr} {o : Host.Outcome State Fault Refusal} (h : CommandDoes s i o)
    (hc : s.cnt.toNat ≤ 10) : Goes o := by
  cases h with
  | acquire a => exact accumulate_goes a s hc
  | refuse | init | sync | teardown => exact ⟨_, rfl⟩

/-- Every decode row goes on. -/
theorem exec_row_goes (i : Instr) (p : Payload) (h : i.payload? = some p) (s : State) : Goes (exec i s) := by
  obtain ⟨f, v, he, -⟩ := exec_row i p h s
  rw [he]
  rcases completeFrame_cases f v p s with ⟨-, hn⟩ | ⟨-, hn⟩ <;> exact ⟨_, hn⟩

/-- The step goes on from every state with `cnt` at most 10, the bound that keeps the Accumulator from a poll for no
bytes (R101). -/
theorem step_goes (s : State) (hc : s.cnt.toNat ≤ 10) : Goes (step s) := by
  rcases step_cases s with ⟨-, he⟩ | ⟨-, -, -, he⟩ | ⟨-, -, u, rest, -, -, he⟩ | ⟨-, -, u, rest, w, -, -, he⟩ |
    ⟨-, a, c, -, -, he⟩ | ⟨-, a, i, -, hd, he⟩ | ⟨-, b, -, he⟩ | ⟨-, -, he⟩ | ⟨-, a, -, he⟩ <;> rw [he]
  · exact ⟨_, rfl⟩
  · exact ⟨_, rfl⟩
  · exact ⟨_, rfl⟩
  · exact (exec_command_does _ (decodeCommand_payload w) _).goes hc
  · exact ⟨_, rfl⟩
  · exact exec_row_goes i _ (decodeFrame_payload _ _ _ hd) s
  · exact ⟨_, rfl⟩
  · exact ⟨_, rfl⟩
  · exact accumulate_goes a s hc

/-- Settles O52: of the invariant only the bound on `cnt` is needed. -/
theorem noRunStops : Obligations.NoRunStops :=
  fun s ⟨hc, _⟩ => step_goes s hc

/-! ### Only SYNC synchronises (R25, R114) -/

/-- A scan of an unsynchronised session that ends synchronised found the terminator (R114). -/
theorem ScanEnds.found_of_synced {s t : State} (h : ScanEnds s t) (hs : s.synced = false) (ht : t.synced = true) :
    t.phase = .idle ∧ t.rValid = true ∧ t.rCode = .ok ∧ t.cnt = 0 ∧ t.prevCr = true ∧ t.sample = Sample.zero := by
  cases h with
  | found hu hcr => exact ⟨rfl, rfl, rfl, rfl, hcr, rfl⟩
  | waits hu => obtain ⟨_, _, _, _, rfl⟩ := hu; simp [hs] at ht
  | late hu => obtain ⟨_, _, _, _, rfl⟩ := hu; simp [hs] at ht
  | lost hu =>
    obtain ⟨_, _, _, _, rfl⟩ := hu
    have := State.synced_of_raise_synced _ _ ht
    simp [hs] at this

theorem OpenEnds.synced_eq {b : Board} {s t : State} (h : OpenEnds b s t) : t.synced = s.synced := by
  cases h <;> rfl

/-- Settles O53: an acquisition runs only where `synced` is 1 already, and no other case but the scan sets it. -/
theorem onlyASuccessfulSyncSynchronises : Obligations.OnlyASuccessfulSyncSynchronises := by
  intro s t ⟨_, _, _, _, hphase, _⟩ h hs ht
  unfold State.phaseOk at hphase
  cases step_stepsTo s t h with
  | sync hi _ _ hend => exact ⟨.inr hi.idle_word, hend.found_of_synced rfl ht⟩
  | scanning hp hend => exact ⟨.inl hp, hend.found_of_synced hs ht⟩
  | refuse =>
    have := State.synced_of_raise_synced _ _ ht
    simp [hs] at this
  | bad hp =>
    have := State.synced_of_raise_synced _ _ ht
    simp [hs] at this
  | acquire _ hm => simp [State.mode_eq_synced_iff, hs] at hm
  | gathering hp => simp [hp, State.mode_eq_synced_iff, hs] at hphase
  | init _ hend => simp [hend.synced_eq] at ht
  | opening _ hend => simp [hend.synced_eq, hs] at ht
  | reset | silent | pause | dropped | answered | teardown => simp [hs] at ht

/-! ### The value outputs of a Sample (R33, R147, R173) -/

/-- OL writes the sentinel with its overflow flag (R181). -/
theorem Sample.valueOk_applyOL (S : Sample) (ol : Bool) (h : S.valueOk = true) : (S.applyOL ol).valueOk = true := by
  cases ol
  · exact h
  · rfl

/-- SIGN leaves the sentinel alone, and the counts of a decimal (R182). -/
theorem Sample.valueOk_applySIGN (S : Sample) (sign : Bool) (h : S.valueOk = true) :
    (S.applySIGN sign).valueOk = true := by
  unfold Sample.applySIGN
  split
  · rename_i hs
    obtain ⟨-, hsent⟩ : sign = true ∧ S.sSent = false := by simpa using hs
    simpa [Sample.valueOk, hsent] using h
  · exact h

@[simp] theorem Sample.valueOk_applyBATT (S : Sample) (b : Bool) : (S.applyBATT b).valueOk = S.valueOk := by
  cases b <;> rfl

@[simp] theorem Sample.valueOk_applyJUDGE (S : Sample) (f : Func) (b : Bool) :
    (S.applyJUDGE f b).valueOk = S.valueOk := by
  unfold Sample.applyJUDGE; split <;> rfl

@[simp] theorem Sample.valueOk_applyHOLD (S : Sample) (b : Bool) : (S.applyHOLD b).valueOk = S.valueOk := by
  cases b <;> rfl

@[simp] theorem Sample.valueOk_applyDC (S : Sample) (b : Bool) : (S.applyDC b).valueOk = S.valueOk := by
  cases b <;> rfl

@[simp] theorem Sample.valueOk_applyAC (S : Sample) (b : Bool) : (S.applyAC b).valueOk = S.valueOk := by
  cases b <;> rfl

@[simp] theorem Sample.valueOk_applyAUTO (S : Sample) (b : Bool) : (S.applyAUTO b).valueOk = S.valueOk := by
  cases b <;> rfl

theorem valueOk_flags (c : Cfg) (f : Func) (p : Payload) (board : Board) (S : Sample) (h : S.valueOk = true) :
    (flags c f p board S).valueOk = true := by
  have hsigned := Sample.valueOk_applySIGN _ (flagBit p.st c.bitSIGN)
    (Sample.valueOk_applyOL S (flagBit p.st c.bitOL) h)
  change Sample.valueOk (Sample.applyAUTO _ _) = true
  simpa using hsigned

/-- The digits of a well-formed payload read at most 4999 counts, which 13 bits hold (R63). -/
theorem mantOf_le (p : Payload) (h : p.wf = true) : (mantOf p).toNat ≤ 4999 := by
  rw [payload_wf_iff] at h
  have hcounts : p.counts ≤ 4999 := by unfold Payload.counts; omega
  have hmod : (mantOf p).toNat ≤ p.counts := by simpa [mantOf] using Nat.mod_le p.counts 8192
  exact hmod.trans hcounts

/-- A decoded value is the sentinel with the overflow flag or a decimal of at most 4999 counts (R145, R147). -/
theorem valueOk_decodedSample (c : Cfg) (f : Func) (v : Val) (p : Payload) (hw : p.wf = true) (hv : RowVal p v) :
    (decodedSample c f v).valueOk = true := by
  rcases hv with rfl | ⟨e, rfl⟩ | rfl
  · rfl
  · simpa [decodedSample, Sample.setValue, Sample.valueOk] using mantOf_le p hw
  · rfl

theorem valueOk_frameSample (c : Cfg) (board : Board) (f : Func) (v : Val) (p : Payload) (hw : p.wf = true)
    (hv : RowVal p v) : (frameSample c board f v p).valueOk = true :=
  valueOk_flags c f p board _ (valueOk_decodedSample c f v p hw hv)

/-! ### The parts of the invariant -/

/-- The clauses of the invariant about the registers of the block (R23, R36, R235). -/
structure RegistersOk (s : State) : Prop where
  cnt_le : s.cnt.toNat ≤ 10
  closed : s.closedOk = true
  link : s.opened = true → s.link = true
  unsynced : s.mode = .unsynced → s.cnt = 0

/-- The clauses of the invariant about the result outputs alone (R34, R77, R147). -/
structure OutputsOk (s : State) : Prop where
  sample_zero : s.rCode ≠ .ok → s.sample = Sample.zero
  cause_iff : s.rCause = .none ↔ s.rCode ≠ .lostSync
  value : s.sample.valueOk = true

theorem Inv.registers {s : State} (h : Inv s) : RegistersOk s := by
  obtain ⟨hcnt, hclosed, hlink, hunsynced, -⟩ := h
  exact ⟨hcnt, hclosed, hlink, hunsynced⟩

theorem Inv.outputs {s : State} (h : Inv s) : OutputsOk s := by
  obtain ⟨-, -, -, -, -, -, hsample, hcause, hvalue, -⟩ := h
  exact ⟨hsample, hcause, hvalue⟩

theorem Inv.phase_ok {s : State} (h : Inv s) : s.phaseOk = true := by
  obtain ⟨-, -, -, -, hphase, -⟩ := h
  exact hphase

theorem Inv.rValid_of_phase {s : State} {p : Phase} (h : Inv s) (hp : s.phase = p) (hne : p ≠ .idle) :
    s.rValid = false := by
  obtain ⟨-, -, -, -, -, hvalid, -⟩ := h
  exact hvalid (hp ▸ hne)

/-- The invariant where no response stands. -/
theorem inv_of_unanswered {s : State} (hr : RegistersOk s) (ho : OutputsOk s) (hp : s.phaseOk = true)
    (hv : s.rValid = false) : Inv s := by
  obtain ⟨hcnt, hclosed, hlink, hunsynced⟩ := hr
  obtain ⟨hsample, hcause, hvalue⟩ := ho
  exact ⟨hcnt, hclosed, hlink, hunsynced, hp, fun _ => hv, hsample, hcause, hvalue, by simp [hv], by simp [hv]⟩

/-- The invariant where a command has just ended. -/
theorem inv_of_answered {s : State} (hr : RegistersOk s) (ho : OutputsOk s) (hp : s.phase = .idle)
    (hs : s.sample ≠ Sample.zero → s.synced = true) (hl : s.rCode = .lostSync → s.synced = false ∧ s.cnt = 0) :
    Inv s := by
  obtain ⟨hcnt, hclosed, hlink, hunsynced⟩ := hr
  obtain ⟨hsample, hcause, hvalue⟩ := ho
  exact ⟨hcnt, hclosed, hlink, hunsynced, by simp [State.phaseOk, hp], by simp [hp], hsample, hcause, hvalue,
    fun _ => hs, fun _ => hl⟩

/-- The registers of an open session: only the link and `cnt` are bound. -/
theorem registersOk_of_opened {s : State} (ho : s.opened = true) (hl : s.link = true) (hc : s.cnt.toNat ≤ 10)
    (hu : s.synced = false → s.cnt = 0) : RegistersOk s :=
  ⟨hc, by simp [State.closedOk, ho], fun _ => hl, fun hm => hu ((State.mode_eq_unsynced_iff s).1 hm).2.2⟩

theorem registersOk_blockReset (s : State) : RegistersOk s.blockReset :=
  ⟨by simp, by simp [State.closedOk], by simp, by simp⟩

theorem outputsOk_blockReset (s : State) : OutputsOk s.blockReset :=
  ⟨by simp, by simp, rfl⟩

theorem RegistersOk.taken {s : State} (h : RegistersOk s) : RegistersOk s.taken :=
  ⟨h.cnt_le, h.closed, h.link, h.unsynced⟩

theorem OutputsOk.of_eq {s t : State} (h : OutputsOk s) (hcode : t.rCode = s.rCode) (hcause : t.rCause = s.rCause)
    (hsample : t.sample = s.sample) : OutputsOk t :=
  ⟨by rw [hcode, hsample]; exact h.sample_zero, by rw [hcode, hcause]; exact h.cause_iff, hsample ▸ h.value⟩

/-- The Accumulator's condition on the mode (R206, R235). -/
theorem State.phaseOk_of_gathering {s : State} {a : Acq} (hp : s.phase = .gathering a) :
    s.phaseOk = true ↔ s.mode = .synced := by
  simp [State.phaseOk, hp]

/-- A closed session holds no byte of a frame (R36). -/
theorem RegistersOk.cnt_of_closed {s : State} (h : RegistersOk s) (ho : s.opened = false) : s.cnt = 0 := by
  have hclosed := h.closed
  simp only [State.closedOk, ho, Bool.false_or, Bool.and_eq_true, decide_eq_true_eq] at hclosed
  obtain ⟨⟨⟨⟨⟨-, hcnt⟩, -⟩, -⟩, -⟩, -⟩ := hclosed
  exact hcnt

/-! ### Responses meet the invariant -/

theorem inv_respondOk {s : State} (h : RegistersOk s) : Inv s.respondOk :=
  inv_of_answered ⟨h.cnt_le, h.closed, h.link, h.unsynced⟩ ⟨by simp, by simp, rfl⟩ rfl (by simp) (by simp)

/-- A LostSync can only clear `synced`, as it is in a closed session (R222). -/
theorem closedOk_raise_lostSync {s : State} (c : Cause) (h : s.closedOk = true) :
    (s.raise (.lostSync c)).closedOk = true := by
  cases ho : s.opened
  · have hs : s.synced = false := by
      cases hs : s.synced
      · rfl
      · simp [State.closedOk, ho, hs] at h
    have hsame : (s.raise (.lostSync c)).closedOk = s.closedOk := by
      simp [State.closedOk, State.raise_failed_of_ne, ho, hs,
        mt (State.synced_of_raise_synced s (.lostSync c))]
    rw [hsame, h]
  · simp [State.closedOk, ho]

/-- The registers after an error response (R221 to R226): a TransportFailure needs an open session, a LostSync an empty
buffer. -/
theorem registersOk_raise {s : State} {e : Err} (h : RegistersOk s) (hf : e = .transportFailure → s.opened = true)
    (hl : ∀ c, e = .lostSync c → s.cnt = 0) : RegistersOk (s.raise e) := by
  cases e with
  | lostSync c =>
    have hcnt := hl c rfl
    exact ⟨by simp [hcnt], closedOk_raise_lostSync c h.closed, by simpa using h.link, by simp [hcnt]⟩
  | transportFailure =>
    have ho := hf rfl
    refine ⟨h.cnt_le, by simp [State.closedOk, ho], by simpa using h.link, fun hm => ?_⟩
    simp [State.mode_eq_unsynced_iff] at hm
  | _ => exact ⟨h.cnt_le, h.closed, h.link, h.unsynced⟩

/-- Only a LostSync has a cause (R77, R79, R223). -/
theorem Err.cause_eq_none_iff {e : Err} (h : ∀ c, e = .lostSync c → c ≠ .none) :
    e.cause = .none ↔ e.code ≠ .lostSync := by
  cases e with
  | lostSync c => simpa [Err.cause, Err.code] using h c rfl
  | _ => simp [Err.cause, Err.code]

/-- A LostSync leaves the session unsynchronised: it clears `synced`, or its cause is that it was clear (R206, R222). -/
theorem raise_lostSync_unsynced {s : State} {e : Err} (hn : e = .lostSync .notSynced → s.synced = false)
    (hc : e.code = .lostSync) : (s.raise e).synced = false := by
  cases e with
  | lostSync c =>
    by_cases h : c = .notSynced
    · subst h; exact hn rfl
    · exact State.raise_lostSync_synced s c h
  | _ => cases hc

theorem inv_raise {s : State} {e : Err} (h : RegistersOk s) (hf : e = .transportFailure → s.opened = true)
    (hl : ∀ c, e = .lostSync c → c ≠ .none ∧ s.cnt = 0) (hn : e = .lostSync .notSynced → s.synced = false) :
    Inv (s.raise e) := by
  have hout : OutputsOk (s.raise e) := ⟨by simp, Err.cause_eq_none_iff fun c hc => (hl c hc).1, rfl⟩
  refine inv_of_answered (registersOk_raise h hf fun c hc => (hl c hc).2) hout rfl (by simp) fun hc => ?_
  refine ⟨raise_lostSync_unsynced hn hc, ?_⟩
  cases e with
  | lostSync c => simpa using (hl c rfl).2
  | _ => cases hc

/-- An error response other than LostSync in an open session. -/
theorem inv_raise_of_opened {s : State} {e : Err} (h : RegistersOk s) (ho : s.opened = true)
    (hl : ∀ c, e ≠ .lostSync c) : Inv (s.raise e) :=
  inv_raise h (fun _ => ho) (fun c hc => absurd hc (hl c)) fun hc => absurd hc (hl _)

theorem inv_refused {s : State} {e : Err} (h : RegistersOk s) (he : Refused s e) : Inv (s.raise e) := by
  cases he with
  | failed hm => exact inv_raise_of_opened h ((State.mode_eq_failed_iff s).1 hm).1 nofun
  | unsynced hm =>
    refine inv_raise h nofun (fun c hc => ?_) fun _ => ((State.mode_eq_unsynced_iff s).1 hm).2.2
    cases hc
    exact ⟨nofun, h.unsynced hm⟩
  | reserved | closed => exact inv_raise h nofun nofun nofun

/-! ### The loops keep the invariant -/

/-- The scan runs in UNSYNCED mode, where the buffer is empty (R36, R235). -/
theorem Inv.of_scanEnds {s t : State} (h : Inv s) (hp : s.phase = .scanning) (ht : ScanEnds s t) : Inv t := by
  have hm : s.mode = .unsynced := by simpa [State.phaseOk, hp] using h.phase_ok
  obtain ⟨ho, hf, hs⟩ := (State.mode_eq_unsynced_iff s).1 hm
  have hr := h.registers
  have hcnt := hr.unsynced hm
  have frame_ok {u : State} (hu : ScanFrame s u) : RegistersOk u ∧ u.opened = true := by
    obtain ⟨_, _, _, _, rfl⟩ := hu
    exact ⟨registersOk_of_opened ho (hr.link ho) hr.cnt_le fun _ => hcnt, ho⟩
  cases ht with
  | waits hu =>
    refine inv_of_unanswered (frame_ok hu).1 ?_ ?_ ?_ <;> obtain ⟨_, _, _, _, rfl⟩ := hu
    · exact h.outputs.of_eq rfl rfl rfl
    · exact h.phase_ok
    · exact h.rValid_of_phase hp nofun
  | late hu => exact inv_raise_of_opened (frame_ok hu).1 (frame_ok hu).2 nofun
  | lost hu => exact inv_raise_of_opened (frame_ok hu).1 (frame_ok hu).2 nofun
  | found hu =>
    obtain ⟨_, _, _, _, rfl⟩ := hu
    exact inv_respondOk (registersOk_of_opened ho (hr.link ho) (by simp) fun _ => rfl)

/-- A SYNC of a live session starts in UNSYNCED mode with an empty buffer (R111, R112). -/
theorem inv_startSync {s : State} (hr : RegistersOk s) (hout : OutputsOk s) (ho : s.opened = true)
    (hf : s.failed = false) (hv : s.rValid = false) : Inv s.startSync :=
  inv_of_unanswered (registersOk_of_opened ho (hr.link ho) (by simp) fun _ => rfl)
    (hout.of_eq rfl rfl rfl)
    (by simp [State.phaseOk, State.mode_eq_unsynced_iff, ho, hf]) hv

/-- The Accumulator runs in SYNCED mode (R206, R235). -/
theorem Inv.of_gatherEnds {a : Acq} {s t : State} (h : Inv s) (hp : s.phase = .gathering a) (ht : GatherEnds a s t) :
    Inv t := by
  have hm : s.mode = .synced := (State.phaseOk_of_gathering hp).1 h.phase_ok
  obtain ⟨ho, hf, hs⟩ := (State.mode_eq_synced_iff s).1 hm
  have hv := h.rValid_of_phase hp nofun
  have hl := h.registers.link ho
  have frame_ok {u : State} (hu : GatherFrame s u) : RegistersOk u ∧ u.opened = true := by
    obtain ⟨_, _, _, _, _, hc, rfl⟩ := hu
    exact ⟨registersOk_of_opened ho hl hc (by simp [hs]), ho⟩
  cases ht with
  | waits hu =>
    refine inv_of_unanswered (frame_ok hu).1 ?_ ?_ ?_ <;> obtain ⟨_, _, _, _, _, -, rfl⟩ := hu
    · exact h.outputs.of_eq rfl rfl rfl
    · simp [State.phaseOk, hp, State.mode_eq_synced_iff, ho, hf, hs]
    · exact hv
  | lost hu => exact inv_raise_of_opened (frame_ok hu).1 (frame_ok hu).2 nofun
  | wouldBlock hu => exact inv_raise_of_opened (frame_ok hu).1 (frame_ok hu).2 nofun
  | drained hu => exact inv_respondOk (frame_ok hu).1
  | resync hu ht =>
    have hr := (frame_ok hu).1
    obtain ⟨_, _, _, _, _, -, rfl⟩ := hu
    exact (inv_startSync hr (h.outputs.of_eq rfl rfl rfl) ho hf hv).of_scanEnds rfl ht
  | full hu =>
    obtain ⟨_, _, _, _, _, -, rfl⟩ := hu
    refine inv_of_unanswered (registersOk_of_opened ho hl (by simp) fun _ => rfl) ?_ ?_ hv
    · exact h.outputs.of_eq rfl rfl rfl
    · simp [State.phaseOk, State.mode_eq_synced_iff, ho, hf, hs]

/-- INIT waits in CLOSED mode (R200, R235). -/
theorem Inv.of_openEnds {b : Board} {s t : State} (h : Inv s) (hp : s.phase = .opening b) (ht : OpenEnds b s t) :
    Inv t := by
  have ho : s.opened = false := by simpa [State.phaseOk, hp, State.mode_eq_closed_iff] using h.phase_ok
  have hr := h.registers
  cases ht with
  | waits => exact h
  | fails t rest => exact inv_raise ⟨hr.cnt_le, hr.closed, hr.link, hr.unsynced⟩ nofun nofun nofun
  | opens t rest q0 => exact inv_respondOk (registersOk_of_opened rfl rfl hr.cnt_le fun _ => hr.cnt_of_closed ho)

/-- INIT starts with the registers of a closed session; the result outputs stand (R32, R200). -/
theorem inv_startInit {s : State} (b : Board) (link : Bool) (h : OutputsOk s) :
    Inv { s.startInit b with link := link } :=
  inv_of_unanswered ⟨by simp, by simp [State.closedOk], by simp, by simp⟩ (h.of_eq rfl rfl rfl)
    (by simp [State.phaseOk, State.mode_eq_closed_iff]) rfl

/-! ### Every step keeps the invariant (R36) -/

/-- A frame is captured in SYNCED mode with an empty buffer (R103, R206). -/
theorem Inv.of_captured {s : State} {a : Acq} (h : Inv s) (hp : s.phase = .captured a) :
    s.mode = .synced ∧ s.cnt = 0 := by
  simpa [State.phaseOk, hp] using h.phase_ok

theorem StepsTo.inv {s t : State} (hst : StepsTo s t) (h : Inv s) : Inv t := by
  have hr := h.registers
  have hout := h.outputs
  cases hst with
  | reset => exact inv_of_unanswered (registersOk_blockReset _) (outputsOk_blockReset _) rfl rfl
  | silent => exact h
  | pause => exact h
  | refuse _ he => exact inv_refused hr.taken he
  | init _ ht => exact (inv_startInit _ _ (hout.of_eq (t := s.taken) rfl rfl rfl)).of_openEnds rfl ht
  | opening hp ht => exact h.of_openEnds hp ht
  | sync _ ho hf ht =>
    have hstart : Inv s.taken.startSync := inv_startSync hr.taken (hout.of_eq rfl rfl rfl) ho hf rfl
    exact hstart.of_scanEnds rfl ht
  | scanning hp ht => exact h.of_scanEnds hp ht
  | acquire _ hm ht =>
    refine Inv.of_gatherEnds (inv_of_unanswered ?_ ?_ ?_ rfl) rfl ht
    · exact ⟨hr.cnt_le, hr.closed, hr.link, hr.unsynced⟩
    · exact hout.of_eq rfl rfl rfl
    · exact (State.phaseOk_of_gathering rfl).2 hm
  | gathering hp ht => exact h.of_gatherEnds hp ht
  | bad hp hc hn =>
    have hcnt := (h.of_captured hp).2
    refine inv_raise hr nofun (fun c he => ?_) fun he => ?_
    · cases he; exact ⟨hc, hcnt⟩
    · cases he; exact absurd rfl hn
  | dropped hp =>
    refine inv_of_unanswered ⟨hr.cnt_le, hr.closed, hr.link, hr.unsynced⟩
      (hout.of_eq rfl rfl rfl) ?_ (h.rValid_of_phase hp nofun)
    exact (State.phaseOk_of_gathering rfl).2 (h.of_captured hp).1
  | answered hp f hw hv =>
    have hs : s.synced = true := ((State.mode_eq_synced_iff s).1 (h.of_captured hp).1).2.2
    exact inv_of_answered ⟨hr.cnt_le, hr.closed, hr.link, hr.unsynced⟩
      ⟨by simp, by simp, valueOk_frameSample _ _ f _ _ hw hv⟩ rfl (fun _ => hs) (by simp)
  | teardown => exact inv_respondOk (registersOk_blockReset _)

/-- Settles O51: each case of a step ends in registers and outputs that meet the invariant's clauses. -/
theorem everyStepKeepsTheInvariant : Obligations.EveryStepKeepsTheInvariant :=
  fun s t h hstep => (step_stepsTo s t hstep).inv h

end Sys2Proof.Machine
end

section
/-! PROOFS of 20_memory.md: a poll of the stream, O57, and a read of the range table, O33. The decoder's row search and
the table read of R49 are tied once (`tableRows`): the search runs over the rows of `CFG.ranges(f)`, each paired with
the decode row that takes its value from it. -/

namespace Sys2Proof

/-! ### The function code (R11, R64) -/

/-- The code map gives no two functions one code (R11). -/
theorem Cfg.code_injective (c : Cfg) (h : c.valid = true) : Function.Injective c.code := by
  have hnodup : (Func.all.map c.code).Nodup := by
    simp only [Cfg.valid, Bool.and_eq_true, decide_eq_true_eq] at h
    tauto
  exact fun f g hfg => List.inj_on_of_nodup_map hnodup (Func.mem_all f) (Func.mem_all g) hfg

/-- `FuncOf` undoes `CFG.func` (R64). -/
theorem Cfg.funcOf_code (c : Cfg) (h : c.valid = true) (f : Func) : c.funcOf (c.code f) = some f := by
  cases hg : c.funcOf (c.code f) with
  | none => exact absurd rfl ((Cfg.funcOf_none c _).1 hg f)
  | some g => rw [Cfg.code_injective c h (Cfg.funcOf_some c _ g hg)]

/-! ### The range table (R48, R49, R148) -/

/-- The rows of a function's table, each with the decode row that has its range code; empty for the functions without a
table. -/
def tableRows (c : Cfg) (f : Func) (p : Payload) : List (RangeRow × Instr) :=
  match f with
  | .volt =>
      [(c.volt[0], .volt0 p), (c.volt[1], .volt1 p), (c.volt[2], .volt2 p), (c.volt[3], .volt3 p), (c.volt[4], .volt4 p)]
  | .curUa => [(c.curUa[0], .curUa0 p), (c.curUa[1], .curUa1 p)]
  | .curMa => [(c.curMa[0], .curMa0 p), (c.curMa[1], .curMa1 p)]
  | .curAuto => [(c.curAuto[0], .curAuto0 p), (c.curAuto[1], .curAuto1 p)]
  | .res =>
      [(c.res[0], .res0 p), (c.res[1], .res1 p), (c.res[2], .res2 p), (c.res[3], .res3 p), (c.res[4], .res4 p),
       (c.res[5], .res5 p)]
  | .freq =>
      [(c.freq[0], .freq0 p), (c.freq[1], .freq1 p), (c.freq[2], .freq2 p), (c.freq[3], .freq3 p), (c.freq[4], .freq4 p)]
  | .cap =>
      [(c.cap[0], .cap0 p), (c.cap[1], .cap1 p), (c.cap[2], .cap2 p), (c.cap[3], .cap3 p), (c.cap[4], .cap4 p),
       (c.cap[5], .cap5 p), (c.cap[6], .cap6 p)]
  | _ => []

/-- The decoder of a table function searches its `tableRows` (R143). -/
theorem rowInstr_of_hasRanges (c : Cfg) (f : Func) (rng : Nibble) (p : Payload) (hf : f.hasRanges = true) :
    rowInstr c f rng p = pickRow rng (tableRows c f p) := by
  cases f with
  | volt | curUa | curMa | curAuto | res | freq | cap => rfl
  | curMan | cont | diode | temp | adp0 | adp1 | adp2 | adp3 => cases hf

/-- The list of a vector's entries by their places. -/
theorem toList_eq_ofFn {α : Type} {n : Nat} (v : Vector α n) : v.toList = List.ofFn fun i : Fin n => v[i] := by
  apply List.ext_getElem <;> simp

/-- The rows in `tableRows` are the rows of `CFG.ranges(f)`, in the source's order (R48). -/
theorem tableRows_map_fst (c : Cfg) (f : Func) (p : Payload) : (tableRows c f p).map Prod.fst = c.ranges f := by
  cases f <;> simp [tableRows, Cfg.ranges, toList_eq_ofFn]

/-- The row a search finds is the first with the code, as in a read of the table (R49). -/
theorem pickRow_of_find? (rng : Nibble) (rows : List (RangeRow × Instr)) (row : RangeRow)
    (h : (rows.map Prod.fst).find? (fun r => r.code == rng) = some row) :
    ∃ i, pickRow rng rows = .ok i ∧ (row, i) ∈ rows := by
  induction rows with
  | nil => simp at h
  | cons r rest ih =>
    obtain ⟨r, j⟩ := r
    by_cases hc : r.code = rng
    · obtain rfl : r = row := by simpa [hc] using h
      exact ⟨j, by simp [pickRow, hc], by simp⟩
    · obtain ⟨i, hi, hmem⟩ := ih (by simpa [hc] using h)
      exact ⟨i, by simp [pickRow, hc, hi], by simp [hmem]⟩

/-- A read of the table that answers a row selects the decode row beside it (R49, R143). -/
theorem rowInstr_of_lut_some (c : Cfg) (f : Func) (rng : Nibble) (p : Payload) (row : RangeRow)
    (hf : f.hasRanges = true) (h : c.lut f rng = some row) :
    ∃ i, rowInstr c f rng p = .ok i ∧ (row, i) ∈ tableRows c f p := by
  rw [rowInstr_of_hasRanges c f rng p hf]
  exact pickRow_of_find? rng _ row (by rwa [tableRows_map_fst])

/-- A read of the table that answers `NoRow` is the invalid range (R49, R143). -/
theorem rowInstr_of_lut_none (c : Cfg) (f : Func) (rng : Nibble) (p : Payload) (hf : f.hasRanges = true)
    (h : c.lut f rng = none) : rowInstr c f rng p = .error .invalidRange := by
  rw [rowInstr_of_hasRanges c f rng p hf, pickRow_none]
  intro r hr
  have hmem : r.1 ∈ c.ranges f := tableRows_map_fst c f p ▸ List.mem_map_of_mem hr
  simpa using List.find?_eq_none.1 h r.1 hmem

/-- A frame that passed the Validator, with the structural upper nibble at its range byte, decodes as the row of its
function and its range code (R140, R143). -/
theorem decodeFrame_of_function (c : Cfg) (F : Frame) (f : Func) (hc : c.valid = true) (hv : validate c F = none)
    (hhi : hiNib F[0] = nibHi) (hfn : F[5] = structural (c.code f)) :
    decodeFrame c F = rowInstr c f (loNib F[0]) (framePayload F) := by
  simp [decodeFrame, hv, selectRow, hfn, Cfg.funcOf_code c hc f, hhi]

end Sys2Proof

namespace Sys2Proof.Machine

/-! ### Polls (R42, R44) -/

/-- Settles O57: the prefix and its bound are the law of a poll that delivers; a length that both the request and the
queue allow is delivered as it is. -/
theorem pollsDeliverAPrefix : Obligations.PollsDeliverAPrefix := by
  intro n q
  refine ⟨fun k => ⟨_, rfl, pollAnswer_data n (.deliver k) q _ rfl⟩, fun k hn hq => ?_, rfl, rfl⟩
  have hk : deliverCount k n q = k := by unfold deliverCount; omega
  simp [pollAnswer, hk]

/-! ### The exponent and the counts of a Sample (R142, R147) -/

/-- The value outputs of a Sample but for the sign: the sentinel bit, the counts and the exponent (R33). -/
def Sample.magnitude (S : Sample) : Bool × BitVec 13 × BitVec 5 := (S.sSent, S.sMant, S.sExp)

theorem Sample.magnitude_eq_iff (S : Sample) (sent : Bool) (mant : BitVec 13) (exp : BitVec 5) :
    S.magnitude = (sent, mant, exp) ↔ S.sSent = sent ∧ S.sMant = mant ∧ S.sExp = exp := by
  simp [Sample.magnitude]

@[simp] theorem Sample.magnitude_applyOL_false (S : Sample) : (S.applyOL false).magnitude = S.magnitude := rfl

@[simp] theorem Sample.magnitude_applySIGN (S : Sample) (b : Bool) : (S.applySIGN b).magnitude = S.magnitude := by
  unfold Sample.applySIGN; split <;> rfl

@[simp] theorem Sample.magnitude_applyBATT (S : Sample) (b : Bool) : (S.applyBATT b).magnitude = S.magnitude := by
  cases b <;> rfl

@[simp] theorem Sample.magnitude_applyJUDGE (S : Sample) (f : Func) (b : Bool) :
    (S.applyJUDGE f b).magnitude = S.magnitude := by
  unfold Sample.applyJUDGE; split <;> rfl

@[simp] theorem Sample.magnitude_applyHOLD (S : Sample) (b : Bool) : (S.applyHOLD b).magnitude = S.magnitude := by
  cases b <;> rfl

@[simp] theorem Sample.magnitude_applyDC (S : Sample) (b : Bool) : (S.applyDC b).magnitude = S.magnitude := by
  cases b <;> rfl

@[simp] theorem Sample.magnitude_applyAC (S : Sample) (b : Bool) : (S.applyAC b).magnitude = S.magnitude := by
  cases b <;> rfl

@[simp] theorem Sample.magnitude_applyAUTO (S : Sample) (b : Bool) : (S.applyAUTO b).magnitude = S.magnitude := by
  cases b <;> rfl

/-- Of the flags only OL writes the counts and the exponent (R181). -/
theorem magnitude_flags (c : Cfg) (f : Func) (p : Payload) (board : Board) (S : Sample)
    (hol : flagBit p.st c.bitOL = false) : (flags c f p board S).magnitude = S.magnitude := by
  change (Sample.applyAUTO _ _).magnitude = _
  simp [hol]

/-- A frame without OL shows the decoded decimal's counts and its exponent's low 5 bits (R147). -/
theorem magnitude_frameSample_decimal (c : Cfg) (board : Board) (f : Func) (p : Payload) (e : Int)
    (hol : flagBit p.st c.bitOL = false) :
    (frameSample c board f (decimal p e) p).magnitude = (false, mantOf p, BitVec.ofInt 5 e) :=
  magnitude_flags c f p board _ hol

/-- The reading of well-formed digits fits in 13 bits (R63, R142). -/
theorem mantOf_toNat (p : Payload) (h : p.wf = true) : (mantOf p).toNat = p.counts := by
  rw [payload_wf_iff] at h
  have hcounts : p.counts < 2 ^ 13 := by unfold Payload.counts; omega
  simpa [mantOf] using hcounts

/-! ### The step on a captured frame of a table function -/

/-- A captured bad frame ends the command with LostSync and its cause (R222). -/
theorem step_of_captured_error (s : State) (a : Acq) (e : Cause) (hr : s.rstPending = false)
    (hp : s.phase = .captured a) (hd : decodeFrame s.cfg s.x = .error e) : step s = .next (s.raise (.lostSync e)) := by
  simp [step, hr, hp, hd]

/-- A good frame captured by ACQ.NB or ACQ.B is answered with its Sample (R206). -/
theorem completeFrame_of_not_drain (f : Func) (v : Val) (p : Payload) (s : State) (a : Acq)
    (hp : s.phase = .captured a) (ha : a ≠ .drain) :
    completeFrame f v p s = .next (s.respond .ok .none (frameSample s.cfg s.board f v p)) := by
  rcases completeFrame_cases f v p s with ⟨hdrain, -⟩ | ⟨-, h⟩
  · exact absurd (Phase.captured.inj (hp.symm.trans hdrain)) ha
  · exact h

/-- The decode row that stands beside a table row completes the frame with that row's value (R140, R141). -/
theorem exec_tableRows (s : State) (f : Func) (p : Payload) :
    ∀ r ∈ tableRows s.cfg f p, exec r.2 s = completeFrame f (rowValue r.1 p) p s := by
  cases f with
  | volt | freq => exact List.forall_iff_forall_mem.1 ⟨rfl, rfl, rfl, rfl, rfl⟩
  | curUa | curMa | curAuto => exact List.forall_iff_forall_mem.1 ⟨rfl, rfl⟩
  | res => exact List.forall_iff_forall_mem.1 ⟨rfl, rfl, rfl, rfl, rfl, rfl⟩
  | cap => exact List.forall_iff_forall_mem.1 ⟨rfl, rfl, rfl, rfl, rfl, rfl, rfl⟩
  | curMan | cont | diode | temp | adp0 | adp1 | adp2 | adp3 => exact List.forall_iff_forall_mem.1 trivial

/-- Settles O33: the frame decodes as the table read of its range code says; a row found runs with its exponent, `NoRow`
raises LostSync. -/
theorem rangeTableGivesTheExponent : Obligations.RangeTableGivesTheExponent := by
  intro s a f hc hp ha ht hv hhi hfn hf
  have hr : s.rstPending = false := (State.rstPending_eq_false_iff s).2 ht
  have hd := decodeFrame_of_function s.cfg s.x f hc hv hhi hfn
  constructor
  · intro row hrow
    obtain ⟨i, hi, hmem⟩ := rowInstr_of_lut_some s.cfg f _ (framePayload s.x) row hf hrow
    have hstep : step s = .next (s.respond .ok .none
        (frameSample s.cfg s.board f (rowValue row (framePayload s.x)) (framePayload s.x))) := by
      rw [step_of_captured_ok s a i hr hp (hd.trans hi), exec_tableRows s f _ _ hmem,
        completeFrame_of_not_drain f _ _ s a hp ha]
    refine ⟨_, hstep, rfl, rfl, fun hol => ?_⟩
    obtain ⟨hsent, hmant, hexp⟩ := (Sample.magnitude_eq_iff _ _ _ _).1
      (magnitude_frameSample_decimal s.cfg s.board f (framePayload s.x) row.exp10 hol)
    have hcounts := mantOf_toNat (framePayload s.x) (framePayload_wf_of_validate s.cfg s.x hv)
    exact ⟨hsent, hexp, (congrArg BitVec.toNat hmant).trans hcounts⟩
  · intro hrow
    have hbad := hd.trans (rowInstr_of_lut_none s.cfg f _ (framePayload s.x) hf hrow)
    exact ⟨_, step_of_captured_error s a _ hr hp hbad, rfl, rfl,
      State.raise_lostSync_synced s .invalidRange nofun, rfl⟩

end Sys2Proof.Machine
end

section
/-! PROOFS of 30_encoding.md: the decoder and the encoder, O3 to O6 and O8, the digits' value, O30 and O31, and the port
codes, O29 and O59. The Validator's verdict is stated once in the terms of R81 (`validate_verdict`); the range step is a
search of `tableRows`, whose decode rows are encoded by the range code beside them (`encode_of_rowInstr`), so each
direction of the round trip is the Validator's verdict followed by that search. -/

namespace Sys2Proof

/-! ### The fields of a frame (R60, R62) -/

/-- A byte is structural exactly when its upper nibble is 0x3 (R60). -/
theorem eq_structural_iff (b : Byte) (v : Nibble) : b = structural v ↔ hiNib b = nibHi ∧ loNib b = v := by
  constructor
  · rintro rfl
    simp
  · rintro ⟨hhi, rfl⟩
    exact (structural_loNib b hhi).symm

/-! ### The selection of the decode row (R69, R143, R148) -/

/-- The codes of a function's ranges are distinct (R11). -/
theorem Cfg.range_codes_nodup (c : Cfg) (h : c.valid = true) (f : Func) : ((c.ranges f).map (·.code)).Nodup := by
  have hall : Func.all.all (fun f => decide (((c.ranges f).map (·.code)).Nodup)) = true := by
    simp only [Cfg.valid, Bool.and_eq_true] at h
    tauto
  exact of_decide_eq_true (List.all_eq_true.1 hall f (Func.mem_all f))

/-- The table read finds no row exactly when no row of the table has the code (R49). -/
theorem Cfg.lut_eq_none_iff (c : Cfg) (f : Func) (rng : Nibble) :
    c.lut f rng = none ↔ ¬ ∃ row ∈ c.ranges f, row.code = rng := by
  simp [Cfg.lut]

/-- A function without a table has a decode row for every range nibble (R148). -/
theorem rowInstr_of_not_hasRanges (c : Cfg) (f : Func) (rng : Nibble) (p : Payload) (hf : f.hasRanges = false) :
    ∃ i, rowInstr c f rng p = .ok i := by
  cases f with
  | curMan | cont | diode | temp | adp0 | adp1 | adp2 | adp3 => exact ⟨_, rfl⟩
  | volt | curUa | curMa | curAuto | res | freq | cap => cases hf

/-- A search of rows with distinct codes finds each row by its code. -/
theorem pickRow_of_mem (rows : List (RangeRow × Instr)) (r : RangeRow × Instr)
    (hnodup : (rows.map (·.1.code)).Nodup) (hr : r ∈ rows) : pickRow r.1.code rows = .ok r.2 := by
  induction rows with
  | nil => cases hr
  | cons r' rest ih =>
    rw [List.map_cons, List.nodup_cons] at hnodup
    obtain ⟨hnew, hrest⟩ := hnodup
    rcases List.mem_cons.1 hr with rfl | hmem
    · simp [pickRow]
    · have hne : r'.1.code ≠ r.1.code := fun h => hnew (h ▸ List.mem_map_of_mem hmem)
      simp only [pickRow, if_neg hne]
      exact ih hrest hmem

/-- Only a function with a table has rows in it (R48). -/
theorem hasRanges_of_mem_tableRows (c : Cfg) (f : Func) (p : Payload) (r : RangeRow × Instr)
    (hr : r ∈ tableRows c f p) : f.hasRanges = true := by
  cases f with
  | volt | curUa | curMa | curAuto | res | freq | cap => rfl
  | curMan | cont | diode | temp | adp0 | adp1 | adp2 | adp3 => cases hr

/-- The decoder selects each row of a table by its range code (R143). -/
theorem rowInstr_of_mem_tableRows (c : Cfg) (hc : c.valid = true) (f : Func) (p : Payload) (r : RangeRow × Instr)
    (hr : r ∈ tableRows c f p) : rowInstr c f r.1.code p = .ok r.2 := by
  rw [rowInstr_of_hasRanges c f _ p (hasRanges_of_mem_tableRows c f p r hr)]
  refine pickRow_of_mem _ r ?_ hr
  simpa [← tableRows_map_fst c f p, Function.comp_def] using Cfg.range_codes_nodup c hc f

/-! ### The encoding of a decode row (R60, R69) -/

/-- Each row of a table is encoded with its own range code. -/
theorem encode_tableRows (c : Cfg) (f : Func) (p : Payload) :
    ∀ r ∈ tableRows c f p, encode c r.2 = frameBytes c r.1.code f p := by
  cases f with
  | volt | freq => exact List.forall_iff_forall_mem.1 ⟨rfl, rfl, rfl, rfl, rfl⟩
  | curUa | curMa | curAuto => exact List.forall_iff_forall_mem.1 ⟨rfl, rfl⟩
  | res => exact List.forall_iff_forall_mem.1 ⟨rfl, rfl, rfl, rfl, rfl, rfl⟩
  | cap => exact List.forall_iff_forall_mem.1 ⟨rfl, rfl, rfl, rfl, rfl, rfl, rfl⟩
  | curMan | cont | diode | temp | adp0 | adp1 | adp2 | adp3 => exact List.forall_iff_forall_mem.1 trivial

/-- A decode row is encoded with the function and the range code it is selected by. -/
theorem encode_of_rowInstr (c : Cfg) (f : Func) (rng : Nibble) (p : Payload) (i : Instr)
    (h : rowInstr c f rng p = .ok i) : encode c i = frameBytes c rng f p := by
  cases hf : f.hasRanges with
  | true =>
    rw [rowInstr_of_hasRanges c f rng p hf] at h
    obtain ⟨row, hmem, rfl⟩ := pickRow_ok rng _ i h
    exact encode_tableRows c f p _ hmem
  | false =>
    cases f with
    | curMan | cont | diode | temp | adp0 | adp1 | adp2 | adp3 => cases h; rfl
    | volt | curUa | curMa | curAuto | res | freq | cap => cases hf

/-- Every instruction with a payload is a row of a range table, or the one row of a function without a table, whatever
its range nibble (R69). -/
theorem row_of_payload (c : Cfg) (i : Instr) (p : Payload) (h : i.payload? = some p) :
    (∃ f, ∃ r ∈ tableRows c f p, r.2 = i) ∨ ∃ f rng, rowInstr c f rng p = .ok i := by
  cases i with
  | volt0 | volt1 | volt2 | volt3 | volt4 => cases h; exact .inl ⟨.volt, by simp [tableRows]⟩
  | curUa0 | curUa1 => cases h; exact .inl ⟨.curUa, by simp [tableRows]⟩
  | curMa0 | curMa1 => cases h; exact .inl ⟨.curMa, by simp [tableRows]⟩
  | curAuto0 | curAuto1 => cases h; exact .inl ⟨.curAuto, by simp [tableRows]⟩
  | res0 | res1 | res2 | res3 | res4 | res5 => cases h; exact .inl ⟨.res, by simp [tableRows]⟩
  | freq0 | freq1 | freq2 | freq3 | freq4 => cases h; exact .inl ⟨.freq, by simp [tableRows]⟩
  | cap0 | cap1 | cap2 | cap3 | cap4 | cap5 | cap6 => cases h; exact .inl ⟨.cap, by simp [tableRows]⟩
  | curMan rng => cases h; exact .inr ⟨.curMan, rng, rfl⟩
  | cont rng => cases h; exact .inr ⟨.cont, rng, rfl⟩
  | diode rng => cases h; exact .inr ⟨.diode, rng, rfl⟩
  | temp rng => cases h; exact .inr ⟨.temp, rng, rfl⟩
  | adp0 rng => cases h; exact .inr ⟨.adp0, rng, rfl⟩
  | adp1 rng => cases h; exact .inr ⟨.adp1, rng, rfl⟩
  | adp2 rng => cases h; exact .inr ⟨.adp2, rng, rfl⟩
  | adp3 rng => cases h; exact .inr ⟨.adp3, rng, rfl⟩
  | init | sync | acqNb | acqB | discard | teardown | reserved0 | reserved7 => cases h

/-- Every instruction with a payload is selected by some function and range code (R69). -/
theorem exists_rowInstr_of_payload (c : Cfg) (hc : c.valid = true) (i : Instr) (p : Payload)
    (h : i.payload? = some p) : ∃ f rng, rowInstr c f rng p = .ok i := by
  rcases row_of_payload c i p h with ⟨f, r, hr, rfl⟩ | hrow
  · exact ⟨f, r.1.code, rowInstr_of_mem_tableRows c hc f p r hr⟩
  · exact hrow

/-- A well-formed decode row has digits within their bounds (R122). -/
theorem Instr.wf_of_payload (i : Instr) (p : Payload) (h : i.payload? = some p) : i.wf = p.wf := by
  simp [Instr.wf, h]

/-! ### The command word (R76) -/

/-- One byte with upper nibble 0 is the command of its lower nibble (R76, log 4). -/
theorem decode_singleton (c : Cfg) (w : Byte) (h : hiNib w = 0) : decode c [w] = .ok (decodeCommand (loNib w)) :=
  if_pos h

/-- The decoder reads the command word of a command byte (R76). -/
theorem decode_commandByte (c : Cfg) (b : Bool) (op : BitVec 3) :
    decode c (commandByte b op) = .ok (decodeCommand (BitVec.ofBool b ++ op)) := by
  have hnibbles : hiNib ((0 : Nibble) ++ (BitVec.ofBool b ++ op)) = 0 ∧
      loNib ((0 : Nibble) ++ (BitVec.ofBool b ++ op)) = BitVec.ofBool b ++ op := by
    revert b op
    decide
  obtain ⟨hhi, hlo⟩ := hnibbles
  rw [commandByte, decode_singleton c _ hhi, hlo]

/-- Settles O3: each `op` is a branch of the command decoder, evaluated for both values of bit 3. -/
theorem commandWordsDecodeByOp : Obligations.CommandWordsDecodeByOp := by
  intro b op
  refine ⟨?_, ?_, ?_, ?_, ?_, ?_, ?_, ?_⟩ <;> rintro rfl <;> cases b <;> rfl

/-- Every instruction without a payload is encoded as the word of its `op` (R76). -/
theorem encode_command (c : Cfg) (i : Instr) (h : i.payload? = none) :
    ∃ b op, encode c i = commandByte b op ∧ decodeCommand (BitVec.ofBool b ++ op) = i := by
  cases i with
  | init board => cases board <;> exact ⟨_, _, rfl, rfl⟩
  | sync | acqNb | acqB | discard | teardown | reserved0 | reserved7 => exact ⟨_, _, rfl, rfl⟩
  | _ => cases h

end Sys2Proof

namespace Sys2Proof.Machine

/-! ### The verdict on a candidate frame (R81, R120, R228) -/

/-- The function byte passes exactly when it is structural and its code is a function's (R68, R123). -/
theorem functionGood_iff (c : Cfg) (F : Frame) :
    functionGood c F ↔ hiNib F[5] = nibHi ∧ c.funcOf (loNib F[5]) ≠ none := by
  rw [Ne, Cfg.funcOf_none]
  simp [functionGood, eq_structural_iff, eq_comm (a := loNib F[5])]

/-- The Validator's answer: its first failing check, in the source's order, or good (R120). -/
inductive ValidatorVerdict (c : Cfg) (F : Frame) : Option Cause → Prop
  | digits (hd : ¬ digitsGood F) : ValidatorVerdict c F (some .invalidDigits)
  | function (hd : digitsGood F) (hf : ¬ functionGood c F) : ValidatorVerdict c F (some .invalidFunction)
  | statusOption (hd : digitsGood F) (hf : functionGood c F) (ho : ¬ optionsGood F) :
      ValidatorVerdict c F (some .invalidStatusOption)
  | terminator (hd : digitsGood F) (hf : functionGood c F) (ho : optionsGood F) (ht : ¬ terminatorGood F) :
      ValidatorVerdict c F (some .invalidTerminator)
  | good (hd : digitsGood F) (hf : functionGood c F) (ho : optionsGood F) (ht : terminatorGood F) :
      ValidatorVerdict c F none

/-- The Validator's branches, in the terms of R81. -/
theorem validate_verdict (c : Cfg) (F : Frame) : ValidatorVerdict c F (validate c F) := by
  unfold validate
  split_ifs with hhigh h3 hdigit hfhi hfn hopt hterm
  · exact .digits fun ⟨⟨h1, h2, h3, h4⟩, _⟩ => by simp [nibHi, h1, h2, h3, h4] at hhigh
  · exact .digits fun ⟨_, h, _⟩ => by omega
  · exact .digits fun ⟨_, _, h2, h1, h0⟩ => by omega
  all_goals
    have hd : digitsGood F := by
      simp only [not_or, not_not] at hhigh
      exact ⟨hhigh, by omega⟩
  · exact .function hd fun hf => hfhi ((functionGood_iff c F).1 hf).1
  · exact .function hd fun hf => ((functionGood_iff c F).1 hf).2 hfn
  all_goals have hf : functionGood c F := (functionGood_iff c F).2 ⟨not_not.1 hfhi, hfn⟩
  · exact .statusOption hd hf fun ⟨h6, h7, h8⟩ => by simp [nibHi, h6, h7, h8] at hopt
  all_goals
    have ho : optionsGood F := by
      simp only [not_or, not_not] at hopt
      exact hopt
  · exact .terminator hd hf ho fun ⟨h9, h10⟩ => by simp [CR, LF, h9, h10] at hterm
  · simp only [not_or, not_not] at hterm
    exact .good hd hf ho hterm

/-- The Validator passes exactly the frames that meet its four conditions (R120). -/
theorem validate_eq_none_iff (c : Cfg) (F : Frame) :
    validate c F = none ↔ digitsGood F ∧ functionGood c F ∧ optionsGood F ∧ terminatorGood F := by
  have hv := validate_verdict c F
  generalize validate c F = v at hv
  cases hv <;> simp [*]

/-- The range step passes exactly when the upper nibble is 0x3 and the table read of the function finds a row (R143). -/
theorem rangeGood_iff_of_function (c : Cfg) (F : Frame) (f : Func) (hc : c.valid = true)
    (hfn : F[5] = structural (c.code f)) :
    rangeGood c F ↔ hiNib F[0] = nibHi ∧ (f.hasRanges = true → c.lut f (loNib F[0]) ≠ none) := by
  have honly : ∀ g, F[5] = structural (c.code g) ↔ g = f := fun g => by
    simp [hfn, eq_structural_iff, (Cfg.code_injective c hc).eq_iff, eq_comm]
  simp [rangeGood, honly, Cfg.lut_eq_none_iff, nibHi]

/-- The decoder's answer to a candidate frame: the first failing check, the range last, or a decode row (R81, R228). -/
inductive FrameVerdict (c : Cfg) (F : Frame) : Except Cause Instr → Prop
  | bad {e : Cause} (h : ValidatorVerdict c F (some e)) : FrameVerdict c F (.error e)
  | range (h : ValidatorVerdict c F none) (hr : ¬ rangeGood c F) : FrameVerdict c F (.error .invalidRange)
  | row (h : ValidatorVerdict c F none) (hr : rangeGood c F) (i : Instr) : FrameVerdict c F (.ok i)

/-- A frame that passed the Validator is a decode row or an invalid range as the range step passes or not (R128). -/
theorem selectRow_verdict (c : Cfg) (F : Frame) (hc : c.valid = true) (hn : c.rangeNibbleAlways = true)
    (hv : validate c F = none) : FrameVerdict c F (selectRow c F) := by
  have hgood : ValidatorVerdict c F none := hv ▸ validate_verdict c F
  obtain ⟨-, ⟨f, hfn⟩, -, -⟩ := (validate_eq_none_iff c F).1 hv
  have hrange := rangeGood_iff_of_function c F f hc hfn
  have hfunc : c.funcOf (loNib F[5]) = some f := by simp [hfn, Cfg.funcOf_code c hc f]
  by_cases hhi : hiNib F[0] = nibHi
  · have hsel : selectRow c F = rowInstr c f (loNib F[0]) (framePayload F) := by simp [selectRow, hfunc, hhi]
    rw [hsel]
    cases hf : f.hasRanges with
    | false =>
      obtain ⟨i, hi⟩ := rowInstr_of_not_hasRanges c f (loNib F[0]) (framePayload F) hf
      exact hi ▸ .row hgood (hrange.2 ⟨hhi, by simp [hf]⟩) i
    | true =>
      cases hlut : c.lut f (loNib F[0]) with
      | none =>
        rw [rowInstr_of_lut_none c f _ _ hf hlut]
        exact .range hgood fun hr => (hrange.1 hr).2 hf hlut
      | some row =>
        obtain ⟨i, hi, -⟩ := rowInstr_of_lut_some c f _ (framePayload F) row hf hlut
        exact hi ▸ .row hgood (hrange.2 ⟨hhi, by simp [hlut]⟩) i
  · have hsel : selectRow c F = .error .invalidRange := by simp [selectRow, hfunc, hhi, hn]
    exact hsel ▸ .range hgood fun hr => hhi (hrange.1 hr).1

/-- Every candidate frame gets one verdict (R81). -/
theorem decodeFrame_verdict (c : Cfg) (F : Frame) (hc : c.valid = true) (hn : c.rangeNibbleAlways = true) :
    FrameVerdict c F (decodeFrame c F) := by
  unfold decodeFrame
  cases hv : validate c F with
  | none => exact selectRow_verdict c F hc hn hv
  | some e => exact .bad (hv ▸ validate_verdict c F)

/-- Settles O6: in each verdict the conditions that it rests on decide all six clauses. -/
theorem everyCandidateIsGoodOrHasOneCause : Obligations.EveryCandidateIsGoodOrHasOneCause := by
  intro c F hc hn
  have hv := decodeFrame_verdict c F hc hn
  generalize decodeFrame c F = r at hv
  cases hv with
  | bad h => cases h <;> simp [*]
  | range h hr => cases h; simp [*]
  | row h hr i => cases h; simp [*]

/-! ### The round trip (R60, R81) -/

/-- A good frame with the structural upper nibble at its range byte is the frame of its own fields (R60). -/
theorem frameOf_fields (c : Cfg) (F : Frame) (hv : validate c F = none) (hhi : hiNib F[0] = nibHi) :
    frameOf (loNib F[0]) (loNib F[5]) (framePayload F) = F := by
  obtain ⟨⟨⟨h1, h2, h3, h4⟩, -⟩, hfn, ⟨h6, h7, h8⟩, h9, h10⟩ := (validate_eq_none_iff c F).1 hv
  have h5 := ((functionGood_iff c F).1 hfn).1
  refine Vector.ext fun k hk => ?_
  interval_cases k
  exacts [structural_loNib _ hhi, structural_loNib _ h1, structural_loNib _ h2, structural_loNib _ h3,
    structural_loNib _ h4, structural_loNib _ h5, structural_loNib _ h6, structural_loNib _ h7, structural_loNib _ h8,
    h9.symm, h10.symm]

/-- The frame of a function's code and well-formed digits passes the Validator (R60, R120). -/
theorem validate_frameOf (c : Cfg) (rng : Nibble) (f : Func) (p : Payload) (hp : p.wf = true) :
    validate c (frameOf rng (c.code f) p) = none := by
  have hdigits : digitsGood (frameOf rng (c.code f) p) := by
    simpa [digitsGood, frameOf, nibHi] using (payload_wf_iff p).1 hp
  exact (validate_eq_none_iff c _).2 ⟨hdigits, ⟨f, rfl⟩, by simp [optionsGood, frameOf, nibHi], rfl, rfl⟩

/-- The frame of a function's code and well-formed digits decodes as the row of that function and range code (R69). -/
theorem decodeFrame_frameOf (c : Cfg) (hc : c.valid = true) (rng : Nibble) (f : Func) (p : Payload)
    (hp : p.wf = true) : decodeFrame c (frameOf rng (c.code f) p) = rowInstr c f rng p := by
  rw [decodeFrame_of_function c _ f hc (validate_frameOf c rng f p hp) (hiNib_structural rng) rfl,
    framePayload_frameOf]
  exact congrArg (rowInstr c f · p) (loNib_structural rng)

/-- Settles O4: a decode row's bytes are the frame of the fields it is selected by, a command's byte is its word. -/
theorem decodeUndoesEncode : Obligations.DecodeUndoesEncode := by
  intro c i hc hw
  cases hp : i.payload? with
  | some p =>
    obtain ⟨f, rng, hrow⟩ := exists_rowInstr_of_payload c hc i p hp
    have hpw : p.wf = true := Instr.wf_of_payload i p hp ▸ hw
    rw [encode_of_rowInstr c f rng p i hrow, frameBytes, decode_toList_eq_ok_iff, decodeFrame_frameOf c hc rng f p hpw,
      hrow]
  | none =>
    obtain ⟨b, op, henc, hdec⟩ := encode_command c i hp
    rw [henc, decode_commandByte, hdec]

/-- Settles O5: the row a frame selects is encoded with the frame's own fields, and those fields give back the frame. -/
theorem encodeUndoesDecode : Obligations.EncodeUndoesDecode := by
  intro c F i _ hn hd
  obtain ⟨hv, hsel⟩ := (decodeFrame_ok c F i).1 hd
  obtain ⟨f, hf, hnib, hrow⟩ := selectRow_ok c F i hsel
  have hhi : hiNib F[0] = nibHi := by simpa [hn] using hnib
  constructor
  · rw [encode_of_rowInstr c f _ _ i hrow, frameBytes, Cfg.funcOf_some c _ f hf, frameOf_fields c F hv hhi]
  · rw [Instr.wf_of_payload i _ (decodeFrame_payload c F i hd)]
    exact framePayload_wf_of_validate c F hv

/-- The bits of an encoded well-formed instruction are that instruction in the opcode table (R61). -/
theorem decodeTableWord_of_encode (nbits w : Nat) (i : Instr) (hw : i.wf = true)
    (h : tableBytes nbits w = encode cfgRef i) : decodeTableWord nbits w = some i := by
  have hc : cfgRef.valid = true := by decide
  rw [decodeTableWord_eq_some_iff, h]
  exact decodeUndoesEncode cfgRef i hc hw

/-- Settles O8: the five rows' words are their encodings under CFG_REF; the word of function code 7 is refused. -/
theorem tableWordsDecodeToTheirRows : Obligations.TableWordsDecodeToTheirRows :=
  ⟨decodeTableWord_of_encode _ _ _ rfl (by decide), decodeTableWord_of_encode _ _ _ rfl (by decide),
    decodeTableWord_of_encode _ _ _ rfl (by decide), by decide, decodeTableWord_of_encode _ _ _ rfl (by decide),
    decodeTableWord_of_encode _ _ _ rfl (by decide)⟩

/-! ### The value of the digits (R63, R65) -/

/-- The decimal of well-formed digits is their reading in counts times the power of ten (R63, R65). -/
theorem number_decimal (p : Payload) (hp : p.wf = true) (e : Int) :
    (decimal p e).number = some ((p.counts : ℚ) * (10 : ℚ) ^ e) := by
  simp [decimal, Val.number, mantOf_toNat p hp]

/-- Settles O31: each placement's power of ten, multiplied out over the four digits. -/
theorem placementsFollowTheDivisorLadder : Obligations.PlacementsFollowTheDivisorLadder := by
  refine ⟨⟨rfl, rfl, rfl, rfl⟩, fun p hp => ⟨fun pl => number_decimal p hp pl.pexp, ?_, ?_, ?_, ?_⟩⟩
  all_goals
    rw [number_decimal p hp, Option.some_inj]
    norm_num [Payload.counts, Placement.pexp]
  all_goals ring

/-- Settles O30: a frame that passed the Validator has well-formed digits; their value under `X.XXX` is the first
placement of O31. -/
theorem countsAreTheFourDigits : Obligations.CountsAreTheFourDigits := by
  rintro c F p hv rfl
  have hp := framePayload_wf_of_validate c F hv
  obtain ⟨-, hladder⟩ := placementsFollowTheDivisorLadder
  obtain ⟨-, hthousandths, -⟩ := hladder _ hp
  refine ⟨mantOf_toNat _ hp, mantOf_le _ hp, ?_⟩
  rw [div_one]
  exact hthousandths

/-! ### The port codes (R78 to R80) -/

/-- Settles O29: each field is found by passing over the fields that stand below it. -/
theorem sampleWordHoldsItsFields : Obligations.SampleWordHoldsItsFields := by
  intro S
  have hfields : S.word.extractLsb' 31 8 = S.sFunc ∧ S.word.extractLsb' 16 13 = S.sMant ∧
      S.word.extractLsb' 11 5 = S.sExp := by
    unfold Sample.word
    refine ⟨?_, ?_, ?_⟩
    all_goals repeat rw [BitVec.extractLsb'_append_eq_of_le (by omega)]
    · exact BitVec.extractLsb'_eq_self
    · exact BitVec.extractLsb'_append_eq_right
    · exact BitVec.extractLsb'_append_eq_right
  obtain ⟨hfunc, hmant, hexp⟩ := hfields
  have hunit : S.word.extractLsb' 0 4 = S.sUnit.bits := BitVec.extractLsb'_append_eq_right
  refine ⟨hfunc, ?_, ?_, hmant, hexp, ?_, ?_, ?_, ?_, ?_, ?_, ?_, hunit⟩ <;>
    simp only [Sample.word, BitVec.getLsbD_append] <;> simp

/-- A response's code is its row in the table of R78. -/
theorem RespCode.toNat_bits (r : RespCode) : r.bits.toNat = r.ctorIdx := by
  cases r <;> rfl

/-- A cause's code is its row in the table of R79. -/
theorem toNat_causeBits (c : Cause) : (causeBits c).toNat = c.ctorIdx := by
  cases c <;> rfl

/-- Settles O59: the tables' rows by evaluation; a code is the number of its row, so no two rows share one. -/
theorem responseAndCauseCodes : Obligations.ResponseAndCauseCodes := by
  refine ⟨⟨rfl, rfl, rfl, rfl, rfl, rfl, rfl, rfl⟩, ⟨rfl, rfl, rfl, rfl, rfl, rfl, rfl⟩, fun a b h => ?_,
    fun a b h => ?_, fun c => ?_⟩
  · have hidx : a.ctorIdx = b.ctorIdx := by rw [← a.toNat_bits, ← b.toNat_bits, h]
    rw [← RespCode.ofNat_ctorIdx a, hidx, RespCode.ofNat_ctorIdx]
  · have hidx : a.ctorIdx = b.ctorIdx := by rw [← toNat_causeBits, ← toNat_causeBits, h]
    rw [← Cause.ofNat_ctorIdx a, hidx, Cause.ofNat_ctorIdx]
  · cases c <;> decide

end Sys2Proof.Machine
end

section
/-! PROOFS of 40_accumulator.md: the Accumulator, O43 to O47. First one equation of the loop for each thing a poll can
do (R100 to R106): fail, bring nothing, bring some of the missing bytes, bring all of them. O43 to O45 are these
equations read for a command just taken; O46 is an induction over the turns with a case for each. -/

namespace Sys2Proof.Machine

/-! ### The acquiring commands in SYNCED mode (R202 to R204) -/

/-- `s` with the Accumulator running for `a`. -/
def State.gathering (s : State) (a : Acq) : State := { s with phase := .gathering a }

/-- In SYNCED mode the command of `a` is the Accumulator (R206, R208). -/
theorem exec_command_eq_accumulate (a : Acq) (s : State) (hm : s.mode = .synced) :
    exec a.command s = accumulate a s := by
  rw [← whenLive_acquire_synced a s hm]
  cases a <;> rfl

/-- In SYNCED mode, with room for a byte, it is the Accumulator's loop (R101). -/
theorem exec_command_of_synced (a : Acq) (s : State) (hm : s.mode = .synced) (hc : s.cnt.toNat ≤ 10) :
    exec a.command s = .next (gather a s.tape (s.gathering a)) :=
  (exec_command_eq_accumulate a s hm).trans ((accumulate_next a s _).2 ⟨hc, rfl⟩)

/-- The same with the first turn split off, for the loop's equations. -/
theorem exec_command_of_turn (a : Acq) (s : State) (t : Turn) (rest : List Turn) (hm : s.mode = .synced)
    (hc : s.cnt.toNat ≤ 10) (ht : s.tape = t :: rest) :
    exec a.command s = .next (gather a (t :: rest) (s.gathering a)) := by
  rw [exec_command_of_synced a s hm hc, ht]

/-- The three commands that call the Accumulator (R100). -/
theorem mem_acquiring_iff (i : Instr) : i ∈ [Instr.acqNb, .acqB, .discard] ↔ ∃ a : Acq, i = a.command := by
  constructor
  · intro h
    simp only [List.mem_cons, List.not_mem_nil, or_false] at h
    rcases h with rfl | rfl | rfl
    exacts [⟨.nonblocking, rfl⟩, ⟨.blocking, rfl⟩, ⟨.drain, rfl⟩]
  · rintro ⟨a, rfl⟩
    cases a <;> simp [Acq.command]

/-! ### What one poll does to the loop (R101 to R106) -/

/-- `s` after a turn whose poll delivered the first `n` bytes of `Q`: they are appended at `cnt` and gone from `Q`
(R102). -/
@[simps]
def State.fed (s : State) (t : Turn) (rest : List Turn) (n : Nat) : State :=
  { s with x := writeBytes s.x s.cnt.toNat ((s.queueAfter t).take n), cnt := s.cnt + BitVec.ofNat 4 n,
           q := (s.queueAfter t).drop n, now := t.now, tape := rest }

/-- How many bytes the Accumulator's poll delivers in turn `t` where the transport offers `k` (R42, R101). -/
def State.deliveredBy (s : State) (t : Turn) (k : Nat) : Nat := deliverCount k s.missing (s.queueAfter t)

theorem State.deliveredBy_eq (s : State) (t : Turn) (k : Nat) :
    s.deliveredBy t k = min k (min (11 - s.cnt.toNat) (s.queueAfter t).length) := rfl

/-- The append of a poll's bytes is `fed` with their number. -/
theorem append_polled_observe (s : State) (t : Turn) (rest : List Turn) (k : Nat) :
    (((s.observe t rest).polled (s.observe t rest).missing (.deliver k)).append
      ((s.queueAfter t).take (s.deliveredBy t k))) = s.fed t rest (s.deliveredBy t k) := by
  have hlen : ((s.queueAfter t).take (s.deliveredBy t k)).length = s.deliveredBy t k := by
    rw [List.length_take, State.deliveredBy_eq]
    omega
  simp only [State.append, State.polled_cnt, State.observe_cnt, hlen]
  rfl

/-- The bytes of a poll fit behind the held ones, and `cnt` counts them without wrapping (R101, R102). -/
theorem State.fed_toNat_cnt (s : State) (t : Turn) (rest : List Turn) (n : Nat) (h : s.cnt.toNat + n ≤ 11) :
    (s.fed t rest n).cnt.toNat = s.cnt.toNat + n := by
  simp only [State.fed_cnt, BitVec.toNat_add, BitVec.toNat_ofNat]
  omega

/-- `Fail` ends the loop (R106). -/
theorem gather_of_fail (a : Acq) (s : State) (t : Turn) (rest : List Turn) (hr : t.rst = false) (hx : t.rx = .fail) :
    gather a (t :: rest) s = (s.observe t rest).raise .transportFailure := by
  simp only [gather, hr, hx]
  rfl

/-- A drain that holds no byte ends with OK (R204). -/
theorem endDrain_of_cnt_eq_zero (s : State) (h : s.cnt = 0) : endDrain s = s.respondOk := if_neg (not_not.2 h)

/-- A drain that holds a partial frame resynchronises (R204). -/
theorem endDrain_of_cnt_ne_zero (s : State) (h : s.cnt ≠ 0) : endDrain s = synchronize s := if_pos h

/-- What the loop does after a poll that brought nothing, for each of its callers (R104, R105, R204). -/
def afterEmptyPoll (a : Acq) (rest : List Turn) (s : State) : State :=
  match a with
  | .nonblocking => s.raise .wouldBlock
  | .blocking => gather a rest s
  | .drain => endDrain s

theorem gather_of_empty (a : Acq) (s : State) (t : Turn) (rest : List Turn) (k : Nat) (hr : t.rst = false)
    (hx : t.rx = .deliver k) (h0 : s.deliveredBy t k = 0) :
    gather a (t :: rest) s = afterEmptyPoll a rest (s.observe t rest) := by
  have hans : pollAnswer (s.observe t rest).missing (.deliver k) (s.observe t rest).q = .data [] :=
    congrArg (fun n => Polled.data ((s.queueAfter t).take n)) h0
  have hkeep : (s.observe t rest).polled (s.observe t rest).missing (.deliver k) = s.observe t rest :=
    congrArg (fun n => { s.observe t rest with q := (s.queueAfter t).drop n }) h0
  simp only [gather, hr, hx, hans, hkeep, Bool.false_eq_true, if_false]
  cases a <;> rfl

/-- A poll that delivers appends its bytes; the last missing one completes the frame, else the loop goes on (R102,
R103). -/
theorem gather_of_delivered (a : Acq) (s : State) (t : Turn) (rest : List Turn) (k : Nat) (hr : t.rst = false)
    (hx : t.rx = .deliver k) (h0 : s.deliveredBy t k ≠ 0) :
    gather a (t :: rest) s =
      if (s.fed t rest (s.deliveredBy t k)).cnt = 11 then
        { s.fed t rest (s.deliveredBy t k) with cnt := 0, phase := .captured a }
      else gather a rest (s.fed t rest (s.deliveredBy t k)) := by
  have hans : pollAnswer (s.observe t rest).missing (.deliver k) (s.observe t rest).q =
      .data ((s.queueAfter t).take (s.deliveredBy t k)) := rfl
  rw [← append_polled_observe]
  obtain ⟨b, bs, hb⟩ : ∃ b bs, (s.queueAfter t).take (s.deliveredBy t k) = b :: bs := by
    refine List.exists_cons_of_ne_nil ?_
    rw [State.deliveredBy_eq] at h0 ⊢
    rw [Ne, ← List.length_eq_zero_iff, List.length_take]
    omega
  rw [hb] at hans ⊢
  simp only [gather, hr, hx, hans, Bool.false_eq_true, if_false]

/-- A poll that brings some of the missing bytes appends them, and the loop polls again (R102, R105 (b)). -/
theorem gather_of_partial (a : Acq) (s : State) (t : Turn) (rest : List Turn) (k : Nat) (hr : t.rst = false)
    (hx : t.rx = .deliver k) (h0 : s.deliveredBy t k ≠ 0) (hn : s.cnt.toNat + s.deliveredBy t k ≤ 10) :
    gather a (t :: rest) s = gather a rest (s.fed t rest (s.deliveredBy t k)) := by
  rw [gather_of_delivered a s t rest k hr hx h0, if_neg]
  intro hfull
  have hcnt := s.fed_toNat_cnt t rest _ (show s.cnt.toNat + s.deliveredBy t k ≤ 11 by omega)
  rw [hfull, show (11 : BitVec 4).toNat = 11 from rfl] at hcnt
  omega

/-- A poll that brings all the missing bytes completes the frame (R103). -/
theorem gather_of_complete (a : Acq) (s : State) (t : Turn) (rest : List Turn) (k : Nat) (hr : t.rst = false)
    (hx : t.rx = .deliver k) (h0 : s.deliveredBy t k ≠ 0) (hn : s.cnt.toNat + s.deliveredBy t k = 11) :
    gather a (t :: rest) s = { s.fed t rest (s.deliveredBy t k) with cnt := 0, phase := .captured a } := by
  have hfull : (s.fed t rest (s.deliveredBy t k)).cnt = 11 :=
    BitVec.eq_of_toNat_eq ((s.fed_toNat_cnt t rest _ hn.le).trans hn)
  rw [gather_of_delivered a s t rest k hr hx h0, if_pos hfull]

/-- The frame buffer after a poll: the held bytes, the bytes of the poll, and what stood behind (R102). -/
theorem State.fed_x_toList (s : State) (t : Turn) (rest : List Turn) (n : Nat) (hn : s.cnt.toNat + n ≤ 11)
    (hq : n ≤ (s.queueAfter t).length) :
    (s.fed t rest n).x.toList = s.held ++ (s.queueAfter t).take n ++ s.x.toList.drop (s.cnt.toNat + n) := by
  have hlen : ((s.queueAfter t).take n).length = n := by rw [List.length_take]; omega
  rw [State.fed_x, writeBytes_toList _ _ _ (by omega), hlen]
  rfl

/-- The held bytes and `Q` are the same string before and after a poll, but for what arrived in its turn (R102, R43). -/
theorem State.fed_held_append_q (s : State) (t : Turn) (rest : List Turn) (n : Nat) (hn : s.cnt.toNat + n ≤ 11)
    (hq : n ≤ (s.queueAfter t).length) :
    (s.fed t rest n).held ++ (s.fed t rest n).q = s.held ++ s.q ++ t.arrive := by
  have hlen : (s.held ++ (s.queueAfter t).take n).length = s.cnt.toNat + n := by
    simp only [State.held, List.length_append, List.length_take, Vector.length_toList]
    omega
  have hheld : (s.fed t rest n).held = s.held ++ (s.queueAfter t).take n := by
    rw [State.held, State.fed_toNat_cnt s t rest n hn, State.fed_x_toList s t rest n hn hq, List.take_left' hlen]
  rw [hheld, State.fed_q, List.append_assoc, List.take_append_drop, State.queueAfter, List.append_assoc]

/-! ### The answer to the first poll (R101 to R106) -/

/-- Settles O45: the loop's equation for a failing poll. -/
theorem failingPollEndsTheAcquisition : Obligations.FailingPollEndsTheAcquisition := by
  intro s t rest i hm hc ht hr hx hi
  obtain ⟨a, rfl⟩ := (mem_acquiring_iff i).1 hi
  rw [exec_command_of_turn a s t rest hm hc ht, gather_of_fail a _ t rest hr hx]
  rfl

/-- A live session's SYNC is the Synchronizer (R201). -/
theorem exec_sync_of_synced (s : State) (hm : s.mode = .synced) : exec .sync s = .next (synchronize s) := by
  obtain ⟨ho, hf, -⟩ := (State.mode_eq_synced_iff s).1 hm
  change whenLive s (fun s => .next (synchronize s)) = _
  simp [whenLive, ho, hf]

/-- An empty poll of a command just taken (R104, R105, R204). -/
theorem exec_command_of_empty (a : Acq) (s : State) (t : Turn) (rest : List Turn) (k : Nat) (hm : s.mode = .synced)
    (hc : s.cnt.toNat ≤ 10) (ht : s.tape = t :: rest) (hr : t.rst = false) (hx : t.rx = .deliver k)
    (h0 : k = 0 ∨ s.queueAfter t = []) :
    exec a.command s = .next (afterEmptyPoll a rest ((s.observe t rest).gathering a)) := by
  have hnone : s.deliveredBy t k = 0 := by
    rw [State.deliveredBy_eq]
    rcases h0 with rfl | hq
    · exact Nat.zero_min _
    · simp [hq]
  rw [exec_command_of_turn a s t rest hm hc ht, gather_of_empty a (s.gathering a) t rest k hr hx hnone]
  rfl

/-- Settles O44: the loop's equation for an empty poll, for each of the three commands. -/
theorem emptyPollEndsOnlyTheNonblocking : Obligations.EmptyPollEndsOnlyTheNonblocking := by
  intro s t rest k hm hc ht hr hx h0
  have hempty := fun a => exec_command_of_empty a s t rest k hm hc ht hr hx h0
  refine ⟨?nonblocking, ?blocking, fun hz => ?nothingHeld, fun hz => ?partialFrame⟩
  case nonblocking => exact hempty .nonblocking
  case blocking => exact (hempty .blocking).trans (exec_command_of_synced .blocking (s.observe t rest) hm hc).symm
  case nothingHeld =>
    exact (hempty .drain).trans
      (congrArg Host.Outcome.next (endDrain_of_cnt_eq_zero ((s.observe t rest).gathering .drain) hz))
  case partialFrame =>
    calc exec .discard s = .next (endDrain ((s.observe t rest).gathering .drain)) := hempty .drain
      _ = .next (synchronize ((s.observe t rest).gathering .drain)) :=
        congrArg Host.Outcome.next (endDrain_of_cnt_ne_zero ((s.observe t rest).gathering .drain) hz)
      _ = exec .sync (s.observe t rest) := (exec_sync_of_synced (s.observe t rest) hm).symm

/-- Settles O43: the loop's equations for a poll that completes the frame and for one that does not. -/
theorem onePollCompletesTheFrame : Obligations.OnePollCompletesTheFrame := by
  intro s t rest k hm hc ht hr hx
  refine ⟨fun hk hq => ?complete, fun n hn h1 hlt => ?part⟩
  case complete =>
    have hall : s.deliveredBy t k = 11 - s.cnt.toNat := by rw [State.deliveredBy_eq]; omega
    have hsum : s.cnt.toNat + (11 - s.cnt.toNat) = 11 := by omega
    refine ⟨(s.fed t rest (11 - s.cnt.toNat)).x, ?_, fun i a hia => ?_⟩
    · rw [State.fed_x_toList s t rest _ hsum.le hq, hsum, List.drop_of_length_le (by simp), List.append_nil]
    · obtain rfl : i = a.command := by
        simp only [List.mem_cons, Prod.mk.injEq, List.not_mem_nil, or_false] at hia
        rcases hia with ⟨rfl, rfl⟩ | ⟨rfl, rfl⟩ | ⟨rfl, rfl⟩ <;> rfl
      have hne : s.deliveredBy t k ≠ 0 := by omega
      have heq := gather_of_complete a (s.gathering a) t rest k hr hx hne (hall ▸ hsum)
      rw [exec_command_of_turn a s t rest hm hc ht, heq, ← hall]
      rfl
  case part =>
    have hdel : s.deliveredBy t k = n := by rw [State.deliveredBy_eq]; omega
    have hsum : s.cnt.toNat + n ≤ 10 := by omega
    refine ⟨(s.fed t rest n).x, s.fed_x_toList t rest n (by omega) (by omega), fun i hi => ?_⟩
    obtain ⟨a, rfl⟩ := (mem_acquiring_iff i).1 hi
    have hne : s.deliveredBy t k ≠ 0 := by omega
    have heq := gather_of_partial a (s.gathering a) t rest k hr hx hne (hdel ▸ hsum)
    have hcnt : (s.fed t rest n).cnt.toNat ≤ 10 := by rw [State.fed_toNat_cnt s t rest n (by omega)]; exact hsum
    refine Eq.trans ?_ (exec_command_of_synced a (s.fed t rest n) hm hcnt).symm
    rw [exec_command_of_turn a s t rest hm hc ht, heq, ← hdel]
    rfl

/-! ### The order of the bytes (R43, R107) -/

/-- The scan uses turns from the front of the tape only. -/
theorem scan_tape_isSuffix : ∀ (ts : List Turn) (s : State), s.tape = ts → (scan ts s).tape <:+ ts := by
  intro ts
  induction ts with
  | nil => intro s hs; simp [scan, hs]
  | cons t rest ih =>
    intro s hs
    simp only [scan]
    split_ifs
    · rw [hs]
    · simp
    · have hrest : rest <:+ t :: rest := List.suffix_cons t rest
      split
      · simp
      · exact (ih _ rfl).trans hrest
      · split_ifs
        · simp
        · exact (ih _ rfl).trans hrest

/-- A drain that finds the queue empty captures no frame, and uses turns from the front of the tape only (R204). -/
theorem endDrain_ends (s : State) : (endDrain s).tape <:+ s.tape ∧ ∀ b, (endDrain s).phase ≠ .captured b := by
  by_cases hc : s.cnt = 0
  · rw [endDrain_of_cnt_eq_zero s hc]
    exact ⟨List.suffix_rfl, nofun⟩
  · rw [endDrain_of_cnt_ne_zero s hc]
    refine ⟨scan_tape_isSuffix s.tape s.startSync rfl, fun b hb => ?_⟩
    have hends : ScanEnds s.startSync (synchronize s) := scan_ends s.tape s.startSync
    generalize synchronize s = u at hends hb
    cases hends with
    | waits hu => obtain ⟨_, _, _, _, rfl⟩ := hu; cases hb
    | late | lost | found => cases hb

/-- `t` comes from `s` by the turns `used`, for the command of `a`, and no byte was skipped, repeated or reordered: a
captured frame followed by `Q`, or else the held bytes followed by `Q`, is the old string with what arrived (R107). A
drain that captures no frame may have flushed `Q` (R204). -/
structure KeepsByteOrder (a : Acq) (s t : State) (used : List Turn) : Prop where
  tape : s.tape = used ++ t.tape
  captured : (∃ b, t.phase = .captured b) → t.cnt = 0 ∧ t.x.toList ++ t.q = s.held ++ s.q ++ arrivals used
  kept : (∀ b, t.phase ≠ .captured b) → a ≠ .drain →
    t.cnt.toNat ≤ 10 ∧ t.held ++ t.q = s.held ++ s.q ++ arrivals used

/-- An end that is no capture and touches neither the held bytes nor `Q` keeps them. -/
theorem KeepsByteOrder.of_eq {a : Acq} {s t : State} (hc : s.cnt.toNat ≤ 10) (htape : t.tape = s.tape)
    (hx : t.x = s.x) (hcnt : t.cnt = s.cnt) (hq : t.q = s.q) (hp : ∀ b, t.phase ≠ .captured b) :
    KeepsByteOrder a s t [] where
  tape := htape.symm
  captured := fun ⟨b, hb⟩ => absurd hb (hp b)
  kept := fun _ _ => by simp [State.held, hx, hcnt, hq, hc, arrivals]

theorem KeepsByteOrder.of_raise (a : Acq) (s : State) (e : Err) (hc : s.cnt.toNat ≤ 10) :
    KeepsByteOrder a s (s.raise e) [] :=
  .of_eq hc (by simp) (by simp) (by simp) (by simp) (by simp)

/-- One turn before the others: its poll moves bytes from the front of `Q` behind the held ones. -/
theorem KeepsByteOrder.after_turn {a : Acq} {s u v : State} {t : Turn} {used : List Turn} (hs : s.tape = t :: u.tape)
    (hu : u.held ++ u.q = s.held ++ s.q ++ t.arrive) (h : KeepsByteOrder a u v used) :
    KeepsByteOrder a s v (t :: used) := by
  obtain ⟨htape, hcap, hkept⟩ := h
  have harr : u.held ++ u.q ++ arrivals used = s.held ++ s.q ++ arrivals (t :: used) := by
    simp [hu, arrivals]
  rw [harr] at hcap hkept
  exact ⟨by rw [hs, htape]; rfl, hcap, hkept⟩

/-- The loop's end of a drain (R204). -/
theorem endDrain_keepsByteOrder (s : State) : ∃ used, KeepsByteOrder .drain s (endDrain s) used := by
  obtain ⟨⟨used, hused⟩, hp⟩ := endDrain_ends s
  exact ⟨used, hused.symm, fun ⟨b, hb⟩ => absurd hb (hp b), fun _ h => absurd rfl h⟩

/-- A frame is captured when all 11 bytes are held (R103). -/
theorem KeepsByteOrder.of_full (a : Acq) (s : State) (hc : s.cnt.toNat = 11) :
    KeepsByteOrder a s { s with cnt := 0, phase := .captured a } [] where
  tape := rfl
  captured := fun _ => ⟨rfl, by simp [State.held, hc, arrivals]⟩
  kept := fun h => absurd rfl (h a)

/-- What follows an empty poll keeps the bytes if the loop on the remaining turns does. -/
theorem afterEmptyPoll_keepsByteOrder (a : Acq) (rest : List Turn) (s : State) (hc : s.cnt.toNat ≤ 10)
    (hloop : ∃ used, KeepsByteOrder a s (gather a rest s) used) :
    ∃ used, KeepsByteOrder a s (afterEmptyPoll a rest s) used := by
  cases a with
  | nonblocking => exact ⟨[], .of_raise _ s .wouldBlock hc⟩
  | blocking => exact hloop
  | drain => exact endDrain_keepsByteOrder s

/-- R107, over every tape: by induction on its turns, with one case for each thing a poll can do. -/
theorem gather_keepsByteOrder (a : Acq) : ∀ (ts : List Turn) (s : State), s.tape = ts → s.cnt.toNat ≤ 10 →
    s.phase = .gathering a → ∃ used, KeepsByteOrder a s (gather a ts s) used := by
  intro ts
  induction ts with
  | nil => intro s _ hc hp; exact ⟨[], .of_eq hc rfl rfl rfl rfl (by simp [gather, hp])⟩
  | cons t rest ih =>
    intro s hs hc hp
    cases hr : t.rst with
    | true =>
      have hstop : gather a (t :: rest) s = s := by simp [gather, hr]
      rw [hstop]
      exact ⟨[], .of_eq hc rfl rfl rfl rfl (by simp [hp])⟩
    | false =>
      have hsilent : (s.observe t rest).held ++ (s.observe t rest).q = s.held ++ s.q ++ t.arrive := by
        simp [State.held]
      cases hx : t.rx with
      | fail =>
        rw [gather_of_fail a s t rest hr hx]
        exact ⟨[t], .after_turn hs hsilent (.of_raise a _ _ hc)⟩
      | deliver k =>
        have hdel := s.deliveredBy_eq t k
        by_cases h0 : s.deliveredBy t k = 0
        · rw [gather_of_empty a s t rest k hr hx h0]
          obtain ⟨used, h⟩ := afterEmptyPoll_keepsByteOrder a rest (s.observe t rest) hc (ih _ rfl hc hp)
          exact ⟨t :: used, h.after_turn hs hsilent⟩
        · have hroom : s.cnt.toNat + s.deliveredBy t k ≤ 11 := by omega
          have hbytes := s.fed_held_append_q t rest _ hroom (by omega)
          have hcnt := s.fed_toNat_cnt t rest _ hroom
          by_cases hn : s.cnt.toNat + s.deliveredBy t k = 11
          · rw [gather_of_complete a s t rest k hr hx h0 hn]
            exact ⟨[t], .after_turn hs hbytes (.of_full a _ (hcnt.trans hn))⟩
          · rw [gather_of_partial a s t rest k hr hx h0 (by omega)]
            obtain ⟨used, h⟩ := ih (s.fed t rest (s.deliveredBy t k)) rfl (by omega) hp
            exact ⟨t :: used, h.after_turn hs hbytes⟩

/-- Settles O46: the loop's order of the bytes, for a command just taken. -/
theorem accumulatorKeepsTheByteOrder : Obligations.AccumulatorKeepsTheByteOrder := by
  intro s t i hm hc hi h
  obtain ⟨a, rfl⟩ := (mem_acquiring_iff i).1 hi
  rw [exec_command_of_synced a s hm hc] at h
  cases h
  obtain ⟨used, htape, hcap, hkept⟩ := gather_keepsByteOrder a s.tape (s.gathering a) rfl hc rfl
  exact ⟨used, htape, hcap, fun hp hne => hkept hp fun ha => hne (by rw [ha]; rfl)⟩

/-! ### A blocking acquisition (R104) -/

/-- WouldBlock is raised for the non-blocking command alone. -/
theorem accumulate_blocking_rCode (s t : State) (h : accumulate .blocking s = .next t) (hp : t.phase = .idle) :
    t.rCode ≠ .wouldBlock := by
  obtain ⟨hc, rfl⟩ := (accumulate_next _ s t).1 h
  revert hp
  refine gather_induct .blocking (fun u => u.cnt.toNat ≤ 10 ∧ u.phase = .gathering .blocking)
    (fun u => u.phase = .idle → u.rCode ≠ .wouldBlock) (small := fun _ hu => hu.1) (turn := fun _ _ _ hu => hu)
    (empty := fun _ _ hu _ => hu) (grow := ?grow) (wait := ?wait) (lost := fun _ _ _ _ _ => nofun)
    (wouldBlock := fun _ _ ha => nomatch ha) (drained := fun _ _ ha => nomatch ha)
    (full := fun _ _ _ _ _ _ _ hp => nomatch hp) s.tape _ ⟨hc, rfl⟩
  case grow =>
    rintro u rx b bs ⟨hu, hp⟩ hans hle
    exact ⟨(append_cnt u rx _ hu hans).1 ▸ hle, hp⟩
  case wait =>
    rintro u ⟨-, hg⟩ hp
    exact nomatch hg.symm.trans hp

/-- A refusal is never WouldBlock (R208, R209). -/
theorem Refused.rCode_ne_wouldBlock {s : State} {e : Err} (he : Refused s e) : (s.raise e).rCode ≠ .wouldBlock := by
  change e.code ≠ .wouldBlock
  cases he <;> exact nofun

/-- The step that resumes a waiting acquisition is the Accumulator. -/
theorem step_of_gathering (s : State) (a : Acq) (hr : s.rstPending = false) (hp : s.phase = .gathering a) :
    step s = accumulate a s := by
  simp [step, resume, hr, hp]

/-- Settles O47: ACQ.B is refused or is the Accumulator; a step that resumes it is a reset or the Accumulator. -/
theorem blockingAcquisitionNeverAnswersWouldBlock : Obligations.BlockingAcquisitionNeverAnswersWouldBlock := by
  refine ⟨fun s t h hp => ?taken, fun s t hg h hp => ?resumed⟩
  case taken =>
    have hdoes := acquire_does .blocking s
    rw [show whenLive s (acquire .blocking) = .next t from h] at hdoes
    generalize hi : Acq.command .blocking = i at hdoes
    generalize ho : Host.Outcome.next t = o at hdoes
    cases hdoes with
    | refuse i he => cases ho; exact he.rCode_ne_wouldBlock
    | acquire a hm =>
      cases a with
      | blocking => exact accumulate_blocking_rCode s t ho.symm hp
      | nonblocking | drain => cases hi
    | init | sync | teardown => cases hi
  case resumed =>
    cases hr : s.rstPending with
    | true =>
      obtain ⟨u, rest, hu⟩ := s.applyRst_of_rstPending hr
      have hreset : t = (s.observe u rest).blockReset := by
        rw [step, if_pos hr, hu] at h
        cases h
        rfl
      simp [hreset]
    | false => exact accumulate_blocking_rCode s t (step_of_gathering s .blocking hr hg ▸ h) hp

end Sys2Proof.Machine
end

section
/-! PROOFS of 41_synchronizer.md: the Synchronizer, O38, O39, O41 and O42. First one equation of the scan for each thing
an iteration can do (R113 to R116); O39 is these equations read for a step and for a SYNC just taken. Then the scanner's
memory as a statement about the bytes scanned so far (`Scanned`), which every byte that is no match keeps: O38 and O41
are inductions that carry it along, and O42 reads O41 on a stream where the pair stands only at a frame's end (R118). -/

namespace Sys2Proof.Machine

/-! ### A poll for one byte (R42, R113) -/

/-- `s` after a turn whose poll took one byte: `Q` is what stood behind it. -/
def State.tookByte (s : State) (t : Turn) (rest : List Turn) (bs : List Byte) : State :=
  { s with q := bs, now := t.now, tape := rest }

/-- An empty poll changes nothing. -/
theorem State.pollOne_of_empty {s : State} {t : Turn} (rest : List Turn) {k : Nat}
    (h0 : k = 0 ∨ s.queueAfter t = []) :
    pollAnswer 1 (.deliver k) (s.observe t rest).q = .data [] ∧
      (s.observe t rest).polled 1 (.deliver k) = s.observe t rest := by
  have hnone : deliverCount k 1 (s.queueAfter t) = 0 := by
    rcases h0 with rfl | hq
    · exact Nat.zero_min _
    · simp [deliverCount, hq]
  exact ⟨congrArg (fun n => Polled.data ((s.queueAfter t).take n)) hnone,
    congrArg (fun n => { s.observe t rest with q := (s.queueAfter t).drop n }) hnone⟩

/-- A poll that delivers takes the first byte and no more. -/
theorem State.pollOne_of_byte {s : State} {t : Turn} (rest : List Turn) {k : Nat} {b : Byte} {bs : List Byte}
    (hk : k ≠ 0) (hq : s.queueAfter t = b :: bs) :
    pollAnswer 1 (.deliver k) (s.observe t rest).q = .data [b] ∧
      (s.observe t rest).polled 1 (.deliver k) = s.tookByte t rest bs := by
  have hone : deliverCount k 1 (b :: bs) = 1 := by
    rw [deliverCount, List.length_cons]
    omega
  have hqueue : (s.observe t rest).q = b :: bs := hq
  simp only [pollAnswer, State.polled, pollRest, hqueue, hone]
  exact ⟨rfl, rfl⟩

/-! ### What one iteration does to the scan (R113 to R116) -/

section Iteration

variable {s : State} {t : Turn} (rest : List Turn) (hr : t.rst = false)
include hr

/-- At the deadline or beyond no poll is made (R115). -/
theorem scan_of_late (hd : s.cfg.deadline s.board ≤ (t.now - s.t0).toNat) :
    scan (t :: rest) s = (s.observe t rest).raise .syncTimeout := by
  have hlate : (s.observe t rest).deadlinePassed = true := (State.deadlinePassed_iff _).2 hd
  simp only [scan, hr, hlate, Bool.false_eq_true, if_false, if_true]

variable (hd : (t.now - s.t0).toNat < s.cfg.deadline s.board)
include hd

omit hr in
theorem State.deadlinePassed_observe_of_lt : (s.observe t rest).deadlinePassed = false :=
  decide_eq_false hd.not_ge

/-- A failing poll is fatal (R116). -/
theorem scan_of_fail (hx : t.rx = .fail) :
    scan (t :: rest) s = (s.observe t rest).raise .transportFailure := by
  simp only [scan, hr, State.deadlinePassed_observe_of_lt rest hd, hx, pollAnswer, Bool.false_eq_true, if_false]
  rfl

variable {k : Nat} (hx : t.rx = .deliver k)
include hx

/-- An empty poll leaves the scan as it was (R113). -/
theorem scan_of_empty (h0 : k = 0 ∨ s.queueAfter t = []) :
    scan (t :: rest) s = scan rest (s.observe t rest) := by
  obtain ⟨hans, hpolled⟩ := State.pollOne_of_empty rest h0
  simp only [scan, hr, State.deadlinePassed_observe_of_lt rest hd, hx, hans, hpolled, Bool.false_eq_true, if_false]

variable (hk : k ≠ 0) {b : Byte} {bs : List Byte} (hq : s.queueAfter t = b :: bs)
include hk hq

/-- A byte ends the scan or is remembered (R113, R114). -/
theorem scan_of_delivered :
    scan (t :: rest) s =
      if s.prevCr = true ∧ b = LF then (s.tookByte t rest bs).resynced
      else scan rest { s.tookByte t rest bs with prevCr := decide (b = CR) } := by
  obtain ⟨hans, hpolled⟩ := State.pollOne_of_byte rest hk hq
  simp only [scan, hr, State.deadlinePassed_observe_of_lt rest hd, hx, hans, hpolled, State.observe_prevCr,
    Bool.false_eq_true, if_false]

/-- `LF` after `CR` is the terminator (R114). -/
theorem scan_of_match (hm : s.prevCr = true ∧ b = LF) :
    scan (t :: rest) s = (s.tookByte t rest bs).resynced := by
  rw [scan_of_delivered rest hr hd hx hk hq, if_pos hm]

/-- Any other byte is remembered in `prev_cr` only (R113). -/
theorem scan_of_byte (hm : ¬(s.prevCr = true ∧ b = LF)) :
    scan (t :: rest) s = scan rest { s.tookByte t rest bs with prevCr := decide (b = CR) } := by
  rw [scan_of_delivered rest hr hd hx hk hq, if_neg hm]

end Iteration

/-! ### SYNC and the step that resumes it (R201, R208) -/

/-- A live session's SYNC is the Synchronizer, synchronised or not (R201). -/
theorem exec_sync_of_live (s : State) (ho : s.opened = true) (hf : s.failed = false) :
    exec .sync s = .next (synchronize s) := by
  change whenLive s (fun s => .next (synchronize s)) = _
  simp [whenLive, ho, hf]

/-- A scan in progress is resumed where it waits. -/
theorem resume_of_scanning (s : State) (hp : s.phase = .scanning) : resume s = .next (scan s.tape s) := by
  rw [resume, hp]

/-- A step that finds a scan in progress resumes it. -/
theorem step_of_scanning (s : State) (hr : s.rstPending = false) (hp : s.phase = .scanning) :
    step s = .next (scan s.tape s) := by
  simp [step, hr, hp, resume_of_scanning]

/-- Settles O39: the iteration's equations, for a step from a scanning state and for a SYNC just taken. -/
theorem syncChecksTheDeadlineBeforeThePoll : Obligations.SyncChecksTheDeadlineBeforeThePoll := by
  refine ⟨fun s ho hf => ?start, fun s t rest hp ht hr => ?iteration, fun s t rest ho hf ht hr => ?first⟩
  case start =>
    rw [exec_sync_of_live s ho hf, resume_of_scanning _ rfl]
    rfl
  case iteration =>
    have hstep : step s = .next (scan (t :: rest) s) := by
      rw [step_of_scanning s (by simp [State.rstPending, ht, hr]) hp, ht]
    have hresume : ∀ u : State, u.phase = .scanning → u.tape = rest → .next (scan rest u) = resume u :=
      fun u hu htape => by rw [resume_of_scanning u hu, htape]
    refine ⟨?resumed, fun hd => ?late, fun hd => ⟨fun hx => ?lost, fun k hx => ⟨fun h0 => ?empty,
      fun b bs hk hq => ⟨fun hm => ?found, fun hm => ?other⟩⟩⟩⟩
    case resumed => rw [hstep, resume_of_scanning s hp, ht]
    case late => rw [hstep, scan_of_late rest hr hd]; rfl
    case lost => rw [hstep, scan_of_fail rest hr hd hx]; rfl
    case empty => rw [hstep, scan_of_empty rest hr hd hx h0]; exact hresume _ hp rfl
    case found => rw [hstep, scan_of_match rest hr hd hx hk hq hm]; rfl
    case other => rw [hstep, scan_of_byte rest hr hd hx hk hq hm]; exact hresume _ hp rfl
  case first =>
    have hexec : exec .sync s = .next (scan (t :: rest) s.startSync) := by
      rw [exec_sync_of_live s ho hf, synchronize, ht]
    refine ⟨fun hd => ?late, fun hd hx => ?lost⟩
    case late => rw [hexec, scan_of_late rest hr hd]; rfl
    case lost => rw [hexec, scan_of_fail rest hr hd hx]; rfl

/-! ### The scanner's memory (R113, R114) -/

/-- A byte completes a pair exactly as `LF` behind `CR`. -/
theorem noPair_concat_iff (bs : List Byte) (b : Byte) :
    NoPair (bs ++ [b]) ↔ NoPair bs ∧ ¬([CR] <:+ bs ∧ b = LF) := by
  have hends : [CR, LF] <:+ bs ++ [b] ↔ [CR] <:+ bs ∧ b = LF := by
    rw [show [CR, LF] = [CR] ++ [LF] from rfl]
    constructor
    · rintro ⟨pre, h⟩
      rw [← List.append_assoc] at h
      obtain ⟨hpre, hb⟩ := List.append_inj' h rfl
      exact ⟨⟨pre, hpre⟩, (List.singleton_inj.1 hb).symm⟩
    · rintro ⟨⟨pre, rfl⟩, rfl⟩
      exact ⟨pre, (List.append_assoc ..).symm⟩
  rw [NoPair, NoPair, List.infix_concat_iff, hends, not_or, and_comm]

/-- `read` can have been scanned without a match, and leaves the scanner with memory `cr`. -/
def Scanned (read : List Byte) (cr : Bool) : Prop := NoPair read ∧ (cr = true ↔ [CR] <:+ read)

theorem Scanned.nil : Scanned [] false :=
  ⟨fun h => absurd (List.infix_nil.1 h) (by simp), by simp⟩

/-- A scanned byte that is no match is remembered (R113). -/
theorem Scanned.concat {read : List Byte} {cr : Bool} {b : Byte} (h : Scanned read cr) (hm : ¬(cr = true ∧ b = LF)) :
    Scanned (read ++ [b]) (decide (b = CR)) := by
  obtain ⟨hpair, hcr⟩ := h
  refine ⟨(noPair_concat_iff read b).2 ⟨hpair, fun ⟨hs, hb⟩ => hm ⟨hcr.2 hs, hb⟩⟩, ?_⟩
  rw [decide_eq_true_iff, List.singleton_suffix_iff_getLast?_eq_some, List.getLast?_concat, Option.some_inj]

/-! ### A live stream without a pair (R110, R113, R114) -/

/-- The scan takes every byte of a stream without a pair, and remembers the last. -/
theorem scan_feed (rest : List Turn) : ∀ (bs read : List Byte) (s : State), s.tape = feed s.now bs ++ rest →
    s.q = [] → s.t0 = s.now → 0 < s.cfg.deadline s.board → Scanned read s.prevCr → NoPair (read ++ bs) →
    ∃ cr, Scanned (read ++ bs) cr ∧ scan s.tape s = scan rest { s with prevCr := cr, tape := rest } := by
  intro bs
  induction bs with
  | nil =>
    intro read s ht _ _ _ hs _
    have ht' : s.tape = rest := ht
    subst ht'
    exact ⟨s.prevCr, by simpa using hs, rfl⟩
  | cons b bs ih =>
    intro read s ht hq h0 hd hs hn
    have happ : read ++ [b] ++ bs = read ++ b :: bs := by simp
    have hm : ¬(s.prevCr = true ∧ b = LF) := fun ⟨hcr, hb⟩ => by
      have hsplit : NoPair (read ++ [b]) := fun h => hn (happ ▸ h.trans (List.prefix_append _ _).isInfix)
      exact ((noPair_concat_iff read b).1 hsplit).2 ⟨hs.2.1 hcr, hb⟩
    have hin : (s.now - s.t0).toNat < s.cfg.deadline s.board := by simpa [h0] using hd
    have hqueue : s.queueAfter (pollTurn [b] s.now (.deliver 1)) = [b] := by simp [State.queueAfter, hq, pollTurn]
    have hstep := scan_of_byte (t := pollTurn [b] s.now (.deliver 1)) (feed s.now bs ++ rest) rfl hin rfl
      one_ne_zero hqueue hm
    obtain ⟨cr, hcr, hscan⟩ := ih (read ++ [b])
      { s.tookByte (pollTurn [b] s.now (.deliver 1)) (feed s.now bs ++ rest) [] with prevCr := decide (b = CR) }
      rfl rfl h0 hd (hs.concat hm) (happ ▸ hn)
    refine ⟨cr, happ ▸ hcr, ?_⟩
    rw [ht]
    refine hstep.trans (hscan.trans ?_)
    simp [State.tookByte, pollTurn, hq]

/-- Settles O38: the bytes and the terminator's `CR` hold no pair, and the `LF` behind them completes the first. -/
theorem syncFindsTheFirstTerminator : Obligations.SyncFindsTheFirstTerminator := by
  intro s bs rest ho hf hd hn ht
  have hpre : NoPair (bs ++ [CR]) := (noPair_concat_iff bs CR).2 ⟨hn, fun h => absurd h.2 (by decide)⟩
  have htape : s.startSync.tape = feed s.startSync.now (bs ++ [CR]) ++ (feed s.now [LF] ++ rest) := by
    simp [ht, feed]
  obtain ⟨cr, ⟨-, hcr⟩, hscan⟩ := scan_feed (feed s.now [LF] ++ rest) (bs ++ [CR]) [] s.startSync htape rfl rfl
    hd Scanned.nil hpre
  obtain rfl : cr = true := hcr.2 ⟨bs, rfl⟩
  have hin : (s.now - s.now).toNat < s.cfg.deadline s.board := by simpa using hd
  have hfound := scan_of_match (s := { s.startSync with prevCr := true, tape := feed s.now [LF] ++ rest })
    (t := pollTurn [LF] s.now (.deliver 1)) rest rfl hin rfl one_ne_zero rfl ⟨rfl, rfl⟩
  rw [exec_sync_of_live s ho hf]
  exact congrArg Host.Outcome.next (hscan.trans hfound)

/-! ### What a scan that ends OK has consumed (R114, R117) -/

/-- `u` comes from `s` by some turns, after `read` was scanned already: the bytes from the start of the scan on are a
string without a pair, the terminator, and what is left in `Q`. -/
def FoundFirstPair (read : List Byte) (s u : State) : Prop :=
  ∃ used pre, s.tape = used ++ u.tape ∧ read ++ s.q ++ arrivals used = pre ++ [CR, LF] ++ u.q ∧
    NoPair (pre ++ [CR])

/-- One turn before the others: its poll moves a byte, or none, from the front of `Q` behind the scanned ones. -/
theorem FoundFirstPair.after_turn {read read' : List Byte} {s v u : State} {t : Turn} (hs : s.tape = t :: v.tape)
    (hv : read' ++ v.q = read ++ s.queueAfter t) (h : FoundFirstPair read' v u) : FoundFirstPair read s u := by
  obtain ⟨used, pre, htape, hbytes, hpair⟩ := h
  refine ⟨t :: used, pre, by rw [hs, htape]; rfl, ?_, hpair⟩
  rw [← hbytes, hv]
  simp [State.queueAfter, arrivals]

/-- The turn of the match (R114). -/
theorem FoundFirstPair.of_match {read bs : List Byte} {s : State} {t : Turn} {rest : List Turn}
    (hs : s.tape = t :: rest) (hscanned : Scanned read s.prevCr) (hcr : s.prevCr = true)
    (hq : s.queueAfter t = LF :: bs) :
    FoundFirstPair read s (s.tookByte t rest bs).resynced := by
  obtain ⟨hpair, hmemory⟩ := hscanned
  obtain ⟨pre, rfl⟩ := hmemory.1 hcr
  refine ⟨[t], pre, hs, ?_, hpair⟩
  calc pre ++ [CR] ++ s.q ++ arrivals [t] = pre ++ [CR] ++ s.queueAfter t := by simp [State.queueAfter, arrivals]
    _ = pre ++ [CR, LF] ++ bs := by simp [hq]

/-- R114 and R117, over every tape: by induction on its turns, with one case for each thing an iteration can do. -/
theorem scan_foundFirstPair : ∀ (ts : List Turn) (s : State) (read : List Byte), s.tape = ts →
    s.phase = .scanning → Scanned read s.prevCr → (scan ts s).phase = .idle → (scan ts s).rCode = .ok →
    FoundFirstPair read s (scan ts s) := by
  intro ts
  induction ts with
  | nil => intro s _ _ hp _ hidle; exact nomatch hp.symm.trans hidle
  | cons t rest ih =>
    intro s read ht hp hs
    cases hr : t.rst with
    | true =>
      rw [← ht, scan_stop s s (.inr (by simp [State.rstPending, ht, hr]))]
      exact fun hidle => nomatch hp.symm.trans hidle
    | false =>
      rcases le_or_gt (s.cfg.deadline s.board) (t.now - s.t0).toNat with hd | hd
      · rw [scan_of_late rest hr hd]
        exact fun _ => nofun
      · cases hx : t.rx with
        | fail =>
          rw [scan_of_fail rest hr hd hx]
          exact fun _ => nofun
        | deliver k =>
          by_cases h0 : k = 0 ∨ s.queueAfter t = []
          · rw [scan_of_empty rest hr hd hx h0]
            intro hidle hok
            exact .after_turn ht rfl (ih (s.observe t rest) read rfl hp hs hidle hok)
          · obtain ⟨hk, hne⟩ := not_or.1 h0
            obtain ⟨b, bs, hq⟩ := List.exists_cons_of_ne_nil hne
            by_cases hm : s.prevCr = true ∧ b = LF
            · rw [scan_of_match rest hr hd hx hk hq hm]
              obtain ⟨hcr, rfl⟩ := hm
              exact fun _ _ => .of_match ht hs hcr hq
            · rw [scan_of_byte rest hr hd hx hk hq hm]
              intro hidle hok
              have hmoved : read ++ [b] ++ bs = read ++ s.queueAfter t := by simp [hq]
              exact .after_turn ht hmoved (ih _ (read ++ [b]) rfl hp (hs.concat hm) hidle hok)

/-- Settles O41: the scan of a SYNC just taken, which has scanned nothing and whose queue is empty. -/
theorem syncOkConsumesThroughTheFirstPair : Obligations.SyncOkConsumesThroughTheFirstPair := by
  intro s t ho hf h hp hc
  rw [exec_sync_of_live s ho hf] at h
  cases h
  exact scan_foundFirstPair s.tape s.startSync [] rfl rfl Scanned.nil hp hc

/-! ### A well-formed stream (R118) -/

/-- No structural byte is `CR`. -/
theorem ne_CR_of_hiNib {b : Byte} (h : hiNib b = 3) : b ≠ CR := by
  rintro rfl
  exact absurd h (by decide)

/-- A pair in a frame followed by a stream is the frame's own terminator, or lies in the stream (R118). -/
theorem pair_ends_frame_or_follows {body p suf stream : List Byte} (hbody : ∀ b ∈ body, hiNib b = 3)
    (h : body ++ [CR, LF] ++ stream = p ++ [CR, LF] ++ suf) :
    suf = stream ∨ ∃ p', stream = p' ++ [CR, LF] ++ suf := by
  rw [List.append_assoc, List.append_assoc] at h
  rcases List.append_eq_append_iff.1 h with ⟨mid, -, hmid⟩ | ⟨mid, rfl, hmid⟩
  case inl =>
    match mid, hmid with
    | [], hmid => exact .inl (List.append_cancel_left hmid).symm
    | [_], hmid => exact absurd hmid (by simp [CR, LF])
    | _ :: _ :: p', hmid =>
      obtain ⟨-, hmid⟩ := List.cons.inj hmid
      exact .inr ⟨p', by simpa using (List.cons.inj hmid).2⟩
  case inr =>
    match mid, hmid with
    | [], hmid => exact .inl (List.append_cancel_left hmid)
    | c :: _, hmid =>
      obtain ⟨rfl, -⟩ := List.cons.inj hmid
      exact absurd rfl (ne_CR_of_hiNib (hbody CR (by simp)))

/-- In a stream of whole frames, what follows a `CR LF` pair is a whole number of frames (R118). -/
theorem frames_after_pair : ∀ (frames : List (List Byte)) (p suf : List Byte), (∀ f ∈ frames, WireFrame f) →
    frames.flatten = p ++ [CR, LF] ++ suf → ∃ j, suf = (frames.drop j).flatten := by
  intro frames
  induction frames with
  | nil => intro p suf _ h; simp at h
  | cons f frames ih =>
    intro p suf hw h
    obtain ⟨body, -, hbody, rfl⟩ := hw f List.mem_cons_self
    rcases pair_ends_frame_or_follows hbody h with rfl | ⟨p', hp'⟩
    · exact ⟨1, rfl⟩
    · obtain ⟨j, hj⟩ := ih p' suf (fun g hg => hw g (List.mem_cons_of_mem _ hg)) hp'
      exact ⟨j + 1, hj⟩

/-- Settles O42: the bytes consumed end in a pair of the stream (O41), and what follows a pair there is whole frames. -/
theorem syncEndsAlignedOnAWellFormedStream : Obligations.SyncEndsAlignedOnAWellFormedStream := by
  intro s t frames k hw hstream ho hf h hp hc
  obtain ⟨used, pre, htape, hused, -⟩ := syncOkConsumesThroughTheFirstPair s t ho hf h hp hc
  refine frames_after_pair frames (frames.flatten.take k ++ pre) _ hw ?_
  calc frames.flatten = frames.flatten.take k ++ arrivals s.tape := by rw [hstream, List.take_append_drop]
    _ = frames.flatten.take k ++ (arrivals used ++ arrivals t.tape) := by rw [htape]; simp [arrivals]
    _ = frames.flatten.take k ++ pre ++ [CR, LF] ++ (t.q ++ arrivals t.tape) := by rw [hused]; simp

end Sys2Proof.Machine
end

section
/-! PROOFS of 42_validator.md: what follows a failed check (R126), O11. A frame is never refused with NotSynced
(`decodeFrame_cause`), the one cause that leaves `synced` alone, so the LostSync response has one form for all bad
frames. -/

namespace Sys2Proof.Machine

/-- A LostSync with any cause but NotSynced clears `synced` and writes the outputs (R222). -/
theorem State.raise_lostSync_eq (s : State) (c : Cause) (hc : c ≠ .notSynced) :
    s.raise (.lostSync c) = { s with synced := false }.withError .lostSync c := by
  have heffect : (Err.lostSync c).effect s = { s with synced := false } := if_neg hc
  rw [State.raise, heffect]
  rfl

/-- Settles O11: the step on a bad frame raises LostSync, and the frame's cause is not NotSynced. -/
theorem badFrameLosesSync : Obligations.BadFrameLosesSync := by
  intro s a c hp ht hd
  obtain ⟨-, hc⟩ := decodeFrame_cause s.cfg s.x c hd
  have hr : s.rstPending = false := (State.rstPending_eq_false_iff s).2 ht
  rw [step_of_captured_error s a c hr hp hd, State.raise_lostSync_eq s c hc]
  rfl

end Sys2Proof.Machine
end

section
/-! PROOFS of 43_range_decoder.md: the value, the encoding and the invalid ranges of every decode row, O15 to O22, the
range nibble, O7, and the function byte, O32. The flags are brought into closed form once (`frameSample_eq_closedSample`,
44_flag_decoder.md R188), so a row's answer is the closed form of its value (`completeFrame_answer`). A table's rows are
then taken as one list (`tableRows`): what they answer follows from the list of their exponents (`exec_tableRows_answer`),
what encodes them from the list of their codes (`decodeFrame_tableRows`, `decodeFrame_of_no_code`). -/

namespace Sys2Proof.Machine

/-! ### The Flag Decoder, one flag at a time (R181 to R187) -/

theorem Sample.applyBATT_eq (S : Sample) (b : Bool) :
    S.applyBATT b = { S with sBatteryLow := S.sBatteryLow || b } := by
  cases b <;> simp [Sample.applyBATT]

theorem Sample.applyJUDGE_eq (S : Sample) (f : Func) (b : Bool) :
    S.applyJUDGE f b = { S with sDegree := S.sDegree || (b && decide (f = .temp)) } := by
  cases b <;> by_cases hf : f = .temp <;> simp [Sample.applyJUDGE, hf]

theorem Sample.applyHOLD_eq (S : Sample) (b : Bool) : S.applyHOLD b = { S with sHold := S.sHold || b } := by
  cases b <;> simp [Sample.applyHOLD]

theorem Sample.applyDC_eq (S : Sample) (b : Bool) : S.applyDC b = { S with sDcMode := S.sDcMode || b } := by
  cases b <;> simp [Sample.applyDC]

theorem Sample.applyAC_eq (S : Sample) (b : Bool) : S.applyAC b = { S with sDcMode := S.sDcMode && !b } := by
  cases b <;> simp [Sample.applyAC]

theorem Sample.applyAUTO_eq (S : Sample) (b : Bool) : S.applyAUTO b = { S with sAutoMode := S.sAutoMode || b } := by
  cases b <;> simp [Sample.applyAUTO]

/-- OL and then SIGN turn the partial Sample of a decoded value into that of the frame's final value: they reach no
other field, and the sentinel is not signed (R181, R182). -/
theorem decodedSample_applyOL_applySIGN (c : Cfg) (f : Func) (v : Val) (p : Payload) (hv : ∀ m e, v ≠ .dec true m e) :
    ((decodedSample c f v).applyOL (flagBit p.st c.bitOL)).applySIGN (flagBit p.st c.bitSIGN) =
      decodedSample c f (closedValue c v p) := by
  cases v with
  | sent => cases flagBit p.st c.bitOL <;> cases flagBit p.st c.bitSIGN <;> rfl
  | dec neg m e =>
    cases neg with
    | true => exact absurd rfl (hv m e)
    | false =>
      unfold closedValue
      cases flagBit p.st c.bitOL <;> cases flagBit p.st c.bitSIGN <;> rfl

/-- The Flag Decoder in closed form, for a value as Decode gives it, which is never negative (R188). -/
theorem frameSample_eq_closedSample (c : Cfg) (board : Board) (f : Func) (v : Val) (p : Payload)
    (hv : ∀ m e, v ≠ .dec true m e) : frameSample c board f v p = closedSample c board f v p := by
  unfold frameSample flags closedSample
  simp only [decodedSample_applyOL_applySIGN c f v p hv, Sample.applyBATT_eq, Sample.applyJUDGE_eq,
    Sample.applyHOLD_eq, Sample.applyDC_eq, Sample.applyAC_eq, Sample.applyAUTO_eq]
  cases closedValue c v p <;> simp [decodedSample, Sample.setValue, Sample.zero]

/-- Writing the value leaves the function byte (R172). -/
@[simp] theorem Sample.setValue_sFunc (S : Sample) (v : Val) : (S.setValue v).sFunc = S.sFunc := by
  cases v <;> rfl

/-- Writing the value leaves the degree flag (R184). -/
@[simp] theorem Sample.setValue_sDegree (S : Sample) (v : Val) : (S.setValue v).sDegree = S.sDegree := by
  cases v <;> rfl

/-! ### The answer to a good frame (R190, R206) -/

/-- A good frame outside a drain is answered `OK` with the Sample in closed form, and nothing else changes. -/
theorem completeFrame_answer (f : Func) (v : Val) (p : Payload) (s : State) (hp : s.phase ≠ .captured .drain)
    (hv : ∀ m e, v ≠ .dec true m e) :
    completeFrame f v p s = .next (s.withAnswer (closedSample s.cfg s.board f v p)) := by
  rcases completeFrame_cases f v p s with ⟨hdrain, -⟩ | ⟨-, h⟩
  · exact absurd hdrain hp
  · rw [h, frameSample_eq_closedSample _ _ _ _ _ hv]
    rfl

/-- The answer to a row with a decimal value. -/
theorem completeFrame_dec (f : Func) (m : BitVec 13) (e : Int) (p : Payload) (s : State)
    (hp : s.phase ≠ .captured .drain) :
    completeFrame f (.dec false m e) p s = .next (s.withAnswer (closedSample s.cfg s.board f (.dec false m e) p)) :=
  completeFrame_answer f _ p s hp (by simp)

/-- The answer to a row that forces the sentinel. -/
theorem completeFrame_sent (f : Func) (p : Payload) (s : State) (hp : s.phase ≠ .captured .drain) :
    completeFrame f .sent p s = .next (s.withAnswer (closedSample s.cfg s.board f .sent p)) :=
  completeFrame_answer f _ p s hp (by simp)

/-- The rows of a table answer with the digits at the exponents of the range table, row by row (R141, R142). -/
theorem exec_tableRows_answer (s : State) (f : Func) (p : Payload) (es : List Int) (hp : s.phase ≠ .captured .drain)
    (hes : (s.cfg.ranges f).map RangeRow.exp10 = es) :
    List.Forall₂ (fun r e => exec r.2 s =
      .next (s.withAnswer (closedSample s.cfg s.board f (.dec false (mantOf p) e) p))) (tableRows s.cfg f p) es := by
  rw [← hes, ← tableRows_map_fst s.cfg f p, List.map_map, List.forall₂_map_right_iff, List.forall₂_same]
  intro r hr
  rw [exec_tableRows s f p r hr]
  exact completeFrame_dec f _ _ p s hp

end Sys2Proof.Machine

namespace Sys2Proof

/-! ### The exponents of the rows (R142, R149) -/

/-- The exponents of rows are the sums of their contents (R142). -/
theorem map_exp10_eq_of_contents (rows : List RangeRow) :
    rows.map RangeRow.exp10 = (RangeRow.contents rows).map fun q => q.1.pexp + q.2 := by
  simp [RangeRow.contents, RangeRow.exp10]

/-- The exponents of VOLT and of the three currents with a table, under every code map of R11 (R150 to R153). -/
theorem Cfg.exponents_of_valid (c : Cfg) (h : c.valid = true) :
    (c.ranges .volt).map RangeRow.exp10 = [-3, -2, -1, 0, -4] ∧ (c.ranges .curUa).map RangeRow.exp10 = [-1, 0] ∧
    (c.ranges .curMa).map RangeRow.exp10 = [-2, -1] ∧ (c.ranges .curAuto).map RangeRow.exp10 = [-3, -2] := by
  simp only [Cfg.valid, Bool.and_eq_true, decide_eq_true_eq] at h
  obtain ⟨⟨⟨⟨⟨⟨⟨⟨⟨⟨-, hvolt⟩, hua⟩, hma⟩, hauto⟩, -⟩, -⟩, -⟩, -⟩, -⟩, -⟩ := h
  simp only [map_exp10_eq_of_contents, Cfg.ranges, hvolt, hua, hma, hauto]
  decide

/-! ### Frames and rows (R69, R71, R143) -/

/-- `CFG_REF` meets the constraints of R11. -/
theorem cfgRef_valid : cfgRef.valid = true := by decide

/-- The frame of a table row's code decodes to that row (R69). -/
theorem decodeFrame_tableRows (c : Cfg) (hc : c.valid = true) (f : Func) (p : Payload) (hp : p.wf = true) :
    ∀ r ∈ tableRows c f p, decodeFrame c (frameOf r.1.code (c.code f) p) = .ok r.2 := fun r hr => by
  rw [Machine.decodeFrame_frameOf c hc _ f p hp, rowInstr_of_mem_tableRows c hc f p r hr]

/-- A range code that no row of the function's table has is an invalid range (R143). -/
theorem decodeFrame_of_no_code (c : Cfg) (hc : c.valid = true) (f : Func) (hf : f.hasRanges = true) (rng : Nibble)
    (p : Payload) (hp : p.wf = true) (h : ∀ row ∈ c.ranges f, row.code ≠ rng) :
    decodeFrame c (frameOf rng (c.code f) p) = .error .invalidRange := by
  have hlut : c.lut f rng = none := (Cfg.lut_eq_none_iff c f rng).2 fun ⟨row, hmem, hcode⟩ => h row hmem hcode
  rw [Machine.decodeFrame_frameOf c hc _ f p hp, rowInstr_of_lut_none c f rng p hf hlut]

/-- The codes of a table of `CFG_REF` are counted from 0, so each is below the number of its rows (R71). -/
theorem cfgRef_code_lt (f : Func) : ∀ row ∈ cfgRef.ranges f, row.code.toNat < (cfgRef.ranges f).length := by
  cases f <;> decide

/-- Under `CFG_REF` every range nibble past a function's table is an invalid range (R71, R143). -/
theorem decodeFrame_cfgRef_beyond (f : Func) (hf : f.hasRanges = true) (rng : Nibble) (p : Payload) (hp : p.wf = true)
    (h : (cfgRef.ranges f).length ≤ rng.toNat) :
    decodeFrame cfgRef (frameOf rng (cfgRef.code f) p) = .error .invalidRange := by
  refine decodeFrame_of_no_code cfgRef cfgRef_valid f hf rng p hp fun row hrow hcode => ?_
  have hlt := cfgRef_code_lt f row hrow
  rw [hcode] at hlt
  omega

/-- The frames of a table's rows under `CFG_REF`, one after the other (R71). -/
theorem decodeFrame_cfgRef_rows (f : Func) (p : Payload) (hp : p.wf = true) :
    List.Forall (fun r => decodeFrame cfgRef (frameOf r.1.code (cfgRef.code f) p) = .ok r.2) (tableRows cfgRef f p) :=
  List.forall_iff_forall_mem.2 (decodeFrame_tableRows cfgRef cfgRef_valid f p hp)

/-- A wrong upper nibble of the range byte: an invalid range where it is checked, else the row of the lower nibble
(R144). -/
theorem decodeFrame_of_wrong_nibble (c : Cfg) (F : Frame) (f : Func) (hc : c.valid = true) (hv : validate c F = none)
    (hfn : F[5] = structural (c.code f)) (hhi : hiNib F[0] ≠ nibHi) :
    decodeFrame c F = if c.rangeNibbleAlways = true ∨ f.hasRanges = true then .error .invalidRange
      else rowInstr c f (loNib F[0]) (framePayload F) := by
  simp [decodeFrame, hv, selectRow, hfn, Cfg.funcOf_code c hc f, hhi]

end Sys2Proof

namespace Sys2Proof.Machine

/-! ### The range nibble and the function byte -/

/-- Settles O7: where the nibble is checked it fails; where it is not, a function without a table has a row for every
range nibble. -/
theorem rangeNibbleIsCheckedForEveryFunction : Obligations.RangeNibbleIsCheckedForEveryFunction := by
  refine ⟨rfl, fun c F f hc hv hfn hhi => ?_⟩
  rw [decodeFrame_of_wrong_nibble c F f hc hv hfn hhi]
  refine ⟨fun halways => ?_, fun _ hf => ?_, fun halways hf => ?_⟩
  · simp [halways]
  · simp [hf]
  · simpa [halways, hf] using rowInstr_of_not_hasRanges c f (loNib F[0]) (framePayload F) hf

/-- The value of a decode row is never a negative decimal: the sign comes from SIGN alone (R182). -/
theorem RowVal.ne_negative {p : Payload} {v : Val} (h : RowVal p v) (m : BitVec 13) (e : Int) : v ≠ .dec true m e := by
  rcases h with rfl | ⟨e', rfl⟩ | rfl <;> simp

/-- ADP0 and ADP1 have the sentinel or a decimal, by the board (R168, R169). -/
theorem rowVal_boardValue (b : Board) (p : Payload) (e : Int) : RowVal p (boardValue b p e) := by
  cases b with
  | unknown => exact .inl rfl
  | variantA => exact .inr (.inl ⟨e, rfl⟩)

/-- The decode row selected for a function completes the frame as a frame of that function (R69, R140). -/
theorem exec_of_rowInstr (s : State) (f : Func) (rng : Nibble) (p : Payload) (i : Instr)
    (h : rowInstr s.cfg f rng p = .ok i) : ∃ v, exec i s = completeFrame f v p s ∧ RowVal p v := by
  cases hf : f.hasRanges with
  | true =>
    rw [rowInstr_of_hasRanges s.cfg f rng p hf] at h
    obtain ⟨row, hmem, -⟩ := pickRow_ok rng _ i h
    exact ⟨_, exec_tableRows s f p _ hmem, .inr (.inl ⟨_, rfl⟩)⟩
  | false =>
    cases f with
    | curMan | temp => cases h; exact ⟨_, rfl, .inr (.inr rfl)⟩
    | cont | diode => cases h; exact ⟨_, rfl, .inr (.inl ⟨_, rfl⟩)⟩
    | adp0 | adp1 => cases h; exact ⟨_, rfl, rowVal_boardValue _ _ _⟩
    | adp2 | adp3 => cases h; exact ⟨_, rfl, .inl rfl⟩
    | volt | curUa | curMa | curAuto | res | freq | cap => cases hf

/-- The function byte of a frame that decodes is the structural byte of its function's code (R68, R123). -/
theorem structural_code_of_decodeFrame (c : Cfg) (F : Frame) (f : Func) (hv : validate c F = none)
    (hf : c.funcOf (loNib F[5]) = some f) : structural (c.code f) = F[5] := by
  obtain ⟨-, hfn, -, -⟩ := (validate_eq_none_iff c F).1 hv
  obtain ⟨hhi, -⟩ := (functionGood_iff c F).1 hfn
  rw [Cfg.funcOf_some c _ f hf, structural_loNib _ hhi]

/-- Settles O32: the row a frame selects answers with its function's code in the Sample, and that code is the lower
nibble of the frame's structural function byte. -/
theorem functionBytePassesThrough : Obligations.FunctionBytePassesThrough := by
  intro s a i _ hp ha ht hd
  have hr : s.rstPending = false := (State.rstPending_eq_false_iff s).2 ht
  have hphase : s.phase ≠ .captured .drain := fun h => ha (Phase.captured.inj (hp.symm.trans h))
  obtain ⟨hv, hsel⟩ := (decodeFrame_ok s.cfg s.x i).1 hd
  obtain ⟨f, hf, -, hrow⟩ := selectRow_ok s.cfg s.x i hsel
  obtain ⟨v, hexec, hval⟩ := exec_of_rowInstr s f _ _ i hrow
  have hstep := step_of_captured_ok s a i hr hp hd
  rw [hexec, completeFrame_answer f v _ s hphase hval.ne_negative] at hstep
  exact ⟨_, hstep, rfl, rfl,
    (Sample.setValue_sFunc _ _).trans (structural_code_of_decodeFrame s.cfg s.x f hv hf)⟩

/-! ### The rows of the range tables (R150 to R163) -/

/-- Settles O15: the exponents of VOLT are fixed by R11; its codes under CFG_REF are 0 to 4. -/
theorem voltRowsGiveVolts : Obligations.VoltRowsGiveVolts := by
  refine ⟨fun p s hc hp => ?_, fun _ _ => rfl, fun p hw => ?_⟩
  · obtain ⟨hvolt, -⟩ := s.cfg.exponents_of_valid hc
    simpa only [tableRows, List.forall₂_cons, List.forall₂_nil_left_iff, and_true] using
      exec_tableRows_answer s .volt p _ hp hvolt
  · obtain ⟨h0, h1, h2, h3, h4⟩ := decodeFrame_cfgRef_rows .volt p hw
    exact ⟨h0, h1, h2, h3, h4, fun rng => decodeFrame_cfgRef_beyond .volt rfl rng p hw⟩

/-- Settles O16: the exponents of the three currents are fixed by R11; their codes under CFG_REF are 0 and 1. -/
theorem currentRowsGiveTheirUnits : Obligations.CurrentRowsGiveTheirUnits := by
  refine ⟨fun p s hc hp => ?_, fun _ _ => ⟨rfl, rfl, rfl⟩, fun p hw => ?_⟩
  · obtain ⟨-, hua, hma, hauto⟩ := s.cfg.exponents_of_valid hc
    simpa only [tableRows, List.forall₂_cons, List.forall₂_nil_left_iff, and_true, and_assoc] using
      And.intro (exec_tableRows_answer s .curUa p _ hp hua)
        (And.intro (exec_tableRows_answer s .curMa p _ hp hma) (exec_tableRows_answer s .curAuto p _ hp hauto))
  · obtain ⟨hua0, hua1⟩ := decodeFrame_cfgRef_rows .curUa p hw
    obtain ⟨hma0, hma1⟩ := decodeFrame_cfgRef_rows .curMa p hw
    obtain ⟨hauto0, hauto1⟩ := decodeFrame_cfgRef_rows .curAuto p hw
    exact ⟨hua0, hua1, hma0, hma1, hauto0, hauto1, fun rng hrng =>
      ⟨decodeFrame_cfgRef_beyond .curUa rfl rng p hw hrng, decodeFrame_cfgRef_beyond .curMa rfl rng p hw hrng,
        decodeFrame_cfgRef_beyond .curAuto rfl rng p hw hrng⟩⟩

/-- Settles O18: the exponents and the codes of RES in CFG_REF. -/
theorem resRowsGiveOhms : Obligations.ResRowsGiveOhms := by
  refine ⟨fun p s hc hp => ?_, fun _ _ => rfl, fun p hw => ?_⟩
  · have hexp : (s.cfg.ranges .res).map RangeRow.exp10 = [-1, 0, 1, 2, 3, 4] := by rw [hc]; decide
    simpa only [tableRows, List.forall₂_cons, List.forall₂_nil_left_iff, and_true, hc] using
      exec_tableRows_answer s .res p _ hp hexp
  · obtain ⟨h0, h1, h2, h3, h4, h5⟩ := decodeFrame_cfgRef_rows .res p hw
    exact ⟨h0, h1, h2, h3, h4, h5, fun rng => decodeFrame_cfgRef_beyond .res rfl rng p hw⟩

/-- Settles O20: the exponents and the codes of FREQ in CFG_REF. -/
theorem freqRowsGiveHertz : Obligations.FreqRowsGiveHertz := by
  refine ⟨fun p s hc hp => ?_, fun _ _ => rfl, fun p hw => ?_⟩
  · have hexp : (s.cfg.ranges .freq).map RangeRow.exp10 = [0, 1, 2, 3, 4] := by rw [hc]; decide
    simpa only [tableRows, List.forall₂_cons, List.forall₂_nil_left_iff, and_true, hc] using
      exec_tableRows_answer s .freq p _ hp hexp
  · obtain ⟨h0, h1, h2, h3, h4⟩ := decodeFrame_cfgRef_rows .freq p hw
    exact ⟨h0, h1, h2, h3, h4, fun rng => decodeFrame_cfgRef_beyond .freq rfl rng p hw⟩

/-- Settles O21: the exponents and the codes of CAP in CFG_REF. -/
theorem capRowsGiveFarads : Obligations.CapRowsGiveFarads := by
  refine ⟨fun p s hc hp => ?_, fun _ _ => rfl, fun p hw => ?_⟩
  · have hexp : (s.cfg.ranges .cap).map RangeRow.exp10 = [-12, -11, -10, -9, -8, -7, -6] := by rw [hc]; decide
    simpa only [tableRows, List.forall₂_cons, List.forall₂_nil_left_iff, and_true, hc] using
      exec_tableRows_answer s .cap p _ hp hexp
  · obtain ⟨h0, h1, h2, h3, h4, h5, h6⟩ := decodeFrame_cfgRef_rows .cap p hw
    exact ⟨h0, h1, h2, h3, h4, h5, h6, fun rng => decodeFrame_cfgRef_beyond .cap rfl rng p hw⟩

/-! ### The rows of the functions without a table (R158 to R171) -/

/-- Under `CFG_REF` the frame of a function's code decodes as that function's row (R69, R70). -/
theorem decodeFrame_cfgRef (f : Func) (rng : Nibble) (p : Payload) (hw : p.wf = true) :
    decodeFrame cfgRef (frameOf rng (cfgRef.code f) p) = rowInstr cfgRef f rng p :=
  decodeFrame_frameOf cfgRef cfgRef_valid rng f p hw

/-- The degree flag of a finished Sample is JUDGE's, for TEMP only (R184). -/
theorem closedSample_sDegree (c : Cfg) (board : Board) (f : Func) (v : Val) (p : Payload) :
    (closedSample c board f v p).sDegree = (flagBit p.st c.bitJUDGE && decide (f = .temp)) :=
  Sample.setValue_sDegree _ _

/-- Settles O17: both rows have the value zero; the frame's function alone decides whether JUDGE counts. -/
theorem undecodedRowsGiveZero : Obligations.UndecodedRowsGiveZero := by
  refine ⟨fun rng p s hp => ⟨?_, ?_, ?_, ?_⟩, fun rng p hw => ⟨?_, ?_⟩⟩
  · exact completeFrame_dec .curMan 0 0 p s hp
  · exact completeFrame_dec .temp 0 0 p s hp
  · simp [closedSample_sDegree]
  · simp [closedSample_sDegree]
  · exact decodeFrame_cfgRef .curMan rng p hw
  · exact decodeFrame_cfgRef .temp rng p hw

/-- Settles O19: both rows have a decimal of their own exponent, without a look at the range nibble. -/
theorem contAndDiodeIgnoreTheRange : Obligations.ContAndDiodeIgnoreTheRange := by
  refine ⟨fun rng p s hp => ⟨?_, ?_⟩, fun _ _ => ⟨rfl, rfl⟩, fun rng p hw => ⟨?_, ?_⟩⟩
  · exact completeFrame_dec .cont (mantOf p) 0 p s hp
  · exact completeFrame_dec .diode (mantOf p) (-3) p s hp
  · exact decodeFrame_cfgRef .cont rng p hw
  · exact decodeFrame_cfgRef .diode rng p hw

/-- The answer to ADP0 or ADP1: the sentinel on the unknown board, a decimal on VARIANT_A (R168, R169). -/
theorem completeFrame_boardValue (f : Func) (e : Int) (p : Payload) (s : State) (hp : s.phase ≠ .captured .drain) :
    (s.board = .unknown → completeFrame f (boardValue s.board p e) p s =
      .next (s.withAnswer (closedSample s.cfg .unknown f .sent p))) ∧
    (s.board = .variantA → completeFrame f (boardValue s.board p e) p s =
      .next (s.withAnswer (closedSample s.cfg .variantA f (.dec false (mantOf p) e) p))) := by
  constructor
  · intro hb
    have hv : boardValue s.board p e = .sent := by rw [hb]; rfl
    rw [hv, ← hb]
    exact completeFrame_sent f p s hp
  · intro hb
    have hv : boardValue s.board p e = .dec false (mantOf p) e := by rw [hb]; rfl
    rw [hv, ← hb]
    exact completeFrame_dec f (mantOf p) e p s hp

/-- Settles O22: ADP0 and ADP1 by the board, ADP2 and ADP3 the sentinel always; a sentinel is an overflow. -/
theorem auxiliaryRowsDependOnTheBoard : Obligations.AuxiliaryRowsDependOnTheBoard := by
  refine ⟨fun rng p s hp => ?_, fun rng p hw => ⟨?_, ?_, ?_, ?_⟩⟩
  · obtain ⟨hunknown0, hvariant0⟩ := completeFrame_boardValue .adp0 0 p s hp
    obtain ⟨hunknown1, hvariant1⟩ := completeFrame_boardValue .adp1 (-1) p s hp
    exact ⟨fun hb => ⟨hunknown0 hb, hunknown1 hb⟩, fun hb => ⟨hvariant0 hb, hvariant1 hb⟩,
      completeFrame_sent .adp2 p s hp, completeFrame_sent .adp3 p s hp, fun _ => rfl⟩
  · exact decodeFrame_cfgRef .adp0 rng p hw
  · exact decodeFrame_cfgRef .adp1 rng p hw
  · exact decodeFrame_cfgRef .adp2 rng p hw
  · exact decodeFrame_cfgRef .adp3 rng p hw

end Sys2Proof.Machine
end

section
/-! PROOFS of 44_flag_decoder.md: the Flag Decoder, O24 to O27. OL hides the decoded value (`frameSample_of_OL`), so
what is said of a value under OL is said of the sentinel, whose Sample is known in closed form (R188). For the bits
without a meaning (R189), a frame is followed through the step: the Validator, the selected row and its value do not
read the flag nibbles of the option bytes (`decodeFrame_setOptions`, `rowInstr_uniform`), and the Flag Decoder reads
four bits of them (`frameSample_withOptions`). -/

namespace Sys2Proof

/-! ### The option nibbles of a payload and of a frame (R62, R189) -/

/-- The payload with the flag nibbles `o1` and `o2` in the place of its own. -/
def Payload.withOptions (p : Payload) (o1 o2 : Nibble) : Payload := { p with o1 := o1, o2 := o2 }

@[simp] theorem Payload.withOptions_st (p : Payload) (o1 o2 : Nibble) : (p.withOptions o1 o2).st = p.st := rfl
@[simp] theorem Payload.withOptions_o1 (p : Payload) (o1 o2 : Nibble) : (p.withOptions o1 o2).o1 = o1 := rfl
@[simp] theorem Payload.withOptions_o2 (p : Payload) (o1 o2 : Nibble) : (p.withOptions o1 o2).o2 = o2 := rfl

/-- The frame with the option bytes `b7` and `b8` in the place of its own. -/
abbrev setOptions (F : Frame) (b7 b8 : Byte) : Frame := (F.set 7 b7).set 8 b8

theorem framePayload_setOptions (F : Frame) (b7 b8 : Byte) :
    framePayload (setOptions F b7 b8) = (framePayload F).withOptions (loNib b7) (loNib b8) := by
  simp [framePayload, Payload.withOptions]

/-- The Validator reads the upper nibbles of the option bytes only (R124). -/
theorem validate_setOptions (c : Cfg) (F : Frame) (b7 b8 : Byte) (h7 : hiNib b7 = hiNib F[7])
    (h8 : hiNib b8 = hiNib F[8]) : validate c (setOptions F b7 b8) = validate c F := by
  simp [validate, h7, h8]

/-- A frame decodes as the row that some function and range code select for its payload, or has a cause; option bytes
with the same upper nibbles change neither (R81, R140). -/
theorem decodeFrame_setOptions (c : Cfg) (F : Frame) (b7 b8 : Byte) (h7 : hiNib b7 = hiNib F[7])
    (h8 : hiNib b8 = hiNib F[8]) :
    (∃ e, decodeFrame c F = .error e ∧ decodeFrame c (setOptions F b7 b8) = .error e) ∨
    ∃ f rng, decodeFrame c F = rowInstr c f rng (framePayload F) ∧
      decodeFrame c (setOptions F b7 b8) =
        rowInstr c f rng ((framePayload F).withOptions (loNib b7) (loNib b8)) := by
  rw [← framePayload_setOptions]
  unfold decodeFrame
  rw [validate_setOptions c F b7 b8 h7 h8]
  cases validate c F with
  | some e => exact .inl ⟨e, rfl, rfl⟩
  | none =>
    have h0 : (setOptions F b7 b8)[0] = F[0] := by simp
    have h5 : (setOptions F b7 b8)[5] = F[5] := by simp
    simp only [selectRow, h0, h5]
    cases c.funcOf (loNib F[5]) with
    | none => exact .inl ⟨_, rfl, rfl⟩
    | some f =>
      by_cases hrange : hiNib F[0] ≠ nibHi ∧ (c.rangeNibbleAlways = true ∨ f.hasRanges = true)
      · exact .inl ⟨.invalidRange, if_pos hrange, if_pos hrange⟩
      · exact .inr ⟨f, loNib F[0], if_neg hrange, if_neg hrange⟩

end Sys2Proof

namespace Sys2Proof.Machine

/-! ### The closed form (R188) -/

/-- Settles O24: each flag step in closed form, composed in the order of the steps. -/
theorem flagsInClosedForm : Obligations.FlagsInClosedForm := frameSample_eq_closedSample

/-! ### OL and SIGN (R181, R182) -/

/-- OL leaves nothing of the decoded value (R181). -/
theorem decodedSample_applyOL_true (c : Cfg) (f : Func) (v : Val) :
    (decodedSample c f v).applyOL true = (decodedSample c f .sent).applyOL true := by
  cases v <;> rfl

/-- With OL set, every decoded value gives the Sample of the sentinel (R181). -/
theorem frameSample_of_OL (c : Cfg) (board : Board) (f : Func) (v : Val) (p : Payload)
    (hol : flagBit p.st c.bitOL = true) : frameSample c board f v p = frameSample c board f .sent p := by
  unfold frameSample flags
  rw [hol, decodedSample_applyOL_true]

/-- The Sample of the sentinel is unsigned and has the overflow flag, whatever OL and SIGN are (R147, R182). -/
theorem frameSample_sent (c : Cfg) (board : Board) (f : Func) (p : Payload) :
    (frameSample c board f .sent p).value = .sent ∧ (frameSample c board f .sent p).sOverflow = true ∧
    (frameSample c board f .sent p).sNeg = false := by
  rw [frameSample_eq_closedSample c board f .sent p (by simp)]
  exact ⟨rfl, rfl, rfl⟩

/-- The exponent port holds the exponents of 5 bits with a sign as they are (R146). -/
theorem toInt_ofInt_five (e : Int) (hlo : -16 ≤ e) (hhi : e < 16) : (BitVec.ofInt 5 e).toInt = e := by
  rw [BitVec.toInt_ofInt]
  exact Int.bmod_eq_of_le (by omega) (by omega)

/-- A decimal written to a Sample is read back, where the exponent fits the port (R33, R146). -/
theorem Sample.value_setValue_dec (S : Sample) (neg : Bool) (m : BitVec 13) (e : Int) (hlo : -16 ≤ e) (hhi : e < 16) :
    (S.setValue (.dec neg m e)).value = .dec neg m e := by
  simp [Sample.setValue, Sample.value, toInt_ofInt_five e hlo hhi]

/-- Without OL a decimal is signed by SIGN and is no overflow (R181, R182). -/
theorem frameSample_dec_of_not_OL (c : Cfg) (board : Board) (f : Func) (p : Payload) (m : BitVec 13) (e : Int)
    (hol : flagBit p.st c.bitOL = false) (hlo : -16 ≤ e) (hhi : e < 16) :
    (frameSample c board f (.dec false m e) p).value = .dec (flagBit p.st c.bitSIGN) m e ∧
    (frameSample c board f (.dec false m e) p).sOverflow = false := by
  have hclosed : closedValue c (.dec false m e) p = .dec (flagBit p.st c.bitSIGN) m e := by simp [closedValue, hol]
  rw [frameSample_eq_closedSample c board f _ p (by simp), closedSample, hclosed]
  exact ⟨Sample.value_setValue_dec _ _ m e hlo hhi, rfl⟩

/-- Settles O25: with OL set the value counts as the sentinel; the sentinel is never signed, a decimal is by SIGN. -/
theorem overflowTakesPrecedenceOverSign : Obligations.OverflowTakesPrecedenceOverSign := by
  refine ⟨⟨rfl, rfl⟩, fun c board f p m e => ⟨fun hol v => ?_, ?_, ?_⟩⟩
  · rw [frameSample_of_OL c board f v p hol]
    exact frameSample_sent c board f p
  · obtain ⟨hvalue, -, hneg⟩ := frameSample_sent c board f p
    exact ⟨hvalue, hneg⟩
  · exact frameSample_dec_of_not_OL c board f p m e

/-! ### DC and AC (R186) -/

@[simp] theorem Sample.applyOL_sDcMode (S : Sample) (b : Bool) : (S.applyOL b).sDcMode = S.sDcMode := by
  cases b <;> rfl

@[simp] theorem Sample.applySIGN_sDcMode (S : Sample) (b : Bool) : (S.applySIGN b).sDcMode = S.sDcMode := by
  unfold Sample.applySIGN; split <;> rfl

/-- The Sample starts with `dc_mode` 0, whatever its value (R140). -/
@[simp] theorem decodedSample_sDcMode (c : Cfg) (f : Func) (v : Val) : (decodedSample c f v).sDcMode = false := by
  cases v <;> rfl

/-- `s_dc_mode` is DC and not AC (R186). -/
theorem frameSample_sDcMode (c : Cfg) (board : Board) (f : Func) (v : Val) (p : Payload) :
    (frameSample c board f v p).sDcMode = (flagBit p.o2 c.bitDC && !flagBit p.o2 c.bitAC) := by
  simp [frameSample, flags, Sample.applyBATT_eq, Sample.applyJUDGE_eq, Sample.applyHOLD_eq, Sample.applyDC_eq,
    Sample.applyAC_eq, Sample.applyAUTO_eq]

/-- Settles O26: the table of R186 is that of DC and not AC. -/
theorem acWinsOverDc : Obligations.AcWinsOverDc := by
  refine ⟨⟨rfl, rfl⟩, fun c board f v p => ?_⟩
  rw [frameSample_sDcMode]
  cases flagBit p.o2 c.bitDC <;> cases flagBit p.o2 c.bitAC <;> simp

/-! ### Bits without a meaning (R189) -/

/-- The Flag Decoder reads HOLD, DC, AC and AUTO of the option nibbles and no other bit (R185 to R187). -/
theorem frameSample_withOptions (c : Cfg) (board : Board) (f : Func) (v : Val) (p : Payload) (o1 o2 : Nibble)
    (hhold : flagBit o1 c.bitHOLD = flagBit p.o1 c.bitHOLD) (hdc : flagBit o2 c.bitDC = flagBit p.o2 c.bitDC)
    (hac : flagBit o2 c.bitAC = flagBit p.o2 c.bitAC) (hauto : flagBit o2 c.bitAUTO = flagBit p.o2 c.bitAUTO) :
    frameSample c board f v (p.withOptions o1 o2) = frameSample c board f v p := by
  simp only [frameSample, flags, Payload.withOptions_st, Payload.withOptions_o1, Payload.withOptions_o2, hhold, hdc,
    hac, hauto]

/-- A value that is the same for all option nibbles. -/
def IgnoresOptions (v : Payload → Val) : Prop := ∀ p o1 o2, v (p.withOptions o1 o2) = v p

/-- The digits as a decimal ignore the option nibbles (R142). -/
theorem ignoresOptions_decimal (e : Int) : IgnoresOptions fun p => decimal p e := fun _ _ _ => rfl

/-- The value of ADP0 and ADP1 ignores the option nibbles (R168, R169). -/
theorem ignoresOptions_boardValue (b : Board) (e : Int) : IgnoresOptions fun p => boardValue b p e := by
  cases b <;> exact fun _ _ _ => rfl

/-- Whether a function and a range code select a row does not depend on the payload, and the value of the row does not
read the option nibbles (R140, R143). -/
theorem rowInstr_uniform (c : Cfg) (f : Func) (rng : Nibble) :
    (∀ p, rowInstr c f rng p = .error .invalidRange) ∨
    ∃ v : Board → Payload → Val, (∀ b, IgnoresOptions (v b)) ∧
      ∀ p, ∃ i, rowInstr c f rng p = .ok i ∧ ∀ s : State, s.cfg = c → exec i s = completeFrame f (v s.board p) p s := by
  cases hf : f.hasRanges with
  | true =>
    cases hlut : c.lut f rng with
    | none => exact .inl fun p => rowInstr_of_lut_none c f rng p hf hlut
    | some row =>
      refine .inr ⟨fun _ => rowValue row, fun _ => ignoresOptions_decimal _, fun p => ?_⟩
      obtain ⟨i, hi, hmem⟩ := rowInstr_of_lut_some c f rng p row hf hlut
      exact ⟨i, hi, fun s hs => exec_tableRows s f p _ (hs ▸ hmem)⟩
  | false =>
    refine .inr ?_
    cases f with
    | curMan | temp => exact ⟨fun _ _ => zeroValue, fun _ _ _ _ => rfl, fun p => ⟨_, rfl, fun _ _ => rfl⟩⟩
    | cont => exact ⟨fun _ p => decimal p 0, fun _ => ignoresOptions_decimal _, fun p => ⟨_, rfl, fun _ _ => rfl⟩⟩
    | diode => exact ⟨fun _ p => decimal p (-3), fun _ => ignoresOptions_decimal _, fun p => ⟨_, rfl, fun _ _ => rfl⟩⟩
    | adp0 =>
      exact ⟨fun b p => boardValue b p 0, fun b => ignoresOptions_boardValue b _, fun p => ⟨_, rfl, fun _ _ => rfl⟩⟩
    | adp1 =>
      exact ⟨fun b p => boardValue b p (-1), fun b => ignoresOptions_boardValue b _, fun p => ⟨_, rfl, fun _ _ => rfl⟩⟩
    | adp2 | adp3 => exact ⟨fun _ _ => .sent, fun _ _ _ _ => rfl, fun p => ⟨_, rfl, fun _ _ => rfl⟩⟩
    | volt | curUa | curMa | curAuto | res | freq | cap => cases hf

/-- The end of an acquisition sees of the payload its Sample only, and leaves the buffer alone (R190, R206). -/
theorem completeFrame_congr (f : Func) (v : Val) (p p' : Payload) (s : State) (F : Frame)
    (hS : frameSample s.cfg s.board f v p' = frameSample s.cfg s.board f v p) :
    ∃ t, completeFrame f v p s = .next t ∧ completeFrame f v p' { s with x := F } = .next { t with x := F } := by
  rcases completeFrame_cases f v p s with ⟨hp, h⟩ | ⟨hp, h⟩ <;>
    rcases completeFrame_cases f v p' { s with x := F } with ⟨hp', h'⟩ | ⟨hp', h'⟩
  · exact ⟨_, h, h'⟩
  · exact absurd hp hp'
  · exact absurd hp' hp
  · exact ⟨_, h, by rw [h', hS]; rfl⟩

/-- Two captured frames refused with one cause leave the same state but for the buffer (R222). -/
theorem step_setX_of_same_error (s : State) (a : Acq) (F : Frame) (e : Cause) (hr : s.rstPending = false)
    (hp : s.phase = .captured a) (hd : decodeFrame s.cfg s.x = .error e) (hd' : decodeFrame s.cfg F = .error e) :
    ∃ t, step s = .next t ∧ step { s with x := F } = .next { t with x := F } := by
  obtain ⟨-, he⟩ := decodeFrame_cause s.cfg s.x e hd
  refine ⟨_, step_of_captured_error s a e hr hp hd, ?_⟩
  rw [step_of_captured_error { s with x := F } a e hr hp hd', State.raise_lostSync_eq _ e he,
    State.raise_lostSync_eq _ e he]
  rfl

/-- Settles O27: the two frames are refused with one cause, or select rows of one function with one value, and the Flag
Decoder makes one Sample of them. -/
theorem meaninglessBitsDoNotChangeTheSample : Obligations.MeaninglessBitsDoNotChangeTheSample := by
  intro s a b7 b8 hp ht h7 h8 hhold hdc hac hauto
  have hr : s.rstPending = false := (State.rstPending_eq_false_iff s).2 ht
  rcases decodeFrame_setOptions s.cfg s.x b7 b8 h7 h8 with ⟨e, hd, hd'⟩ | ⟨f, rng, hd, hd'⟩
  · exact step_setX_of_same_error s a _ e hr hp hd hd'
  · rcases rowInstr_uniform s.cfg f rng with hnone | ⟨v, hv, hrow⟩
    · exact step_setX_of_same_error s a _ _ hr hp (hd.trans (hnone _)) (hd'.trans (hnone _))
    · obtain ⟨i, hi, hexec⟩ := hrow (framePayload s.x)
      obtain ⟨i', hi', hexec'⟩ := hrow ((framePayload s.x).withOptions (loNib b7) (loNib b8))
      rw [step_of_captured_ok s a i hr hp (hd.trans hi), hexec s rfl,
        step_of_captured_ok { s with x := setOptions s.x b7 b8 } a i' hr hp (hd'.trans hi'),
        hexec' { s with x := setOptions s.x b7 b8 } rfl, hv]
      exact completeFrame_congr f _ _ _ s _ (frameSample_withOptions s.cfg s.board f _ _ _ _ hhold hdc hac hauto)

end Sys2Proof.Machine
end

section
/-! PROOFS of 45_units.md: the Units Lookup, O28. TEMP alone reads `degree` and no function reads the board (R195), so
each other row is evaluated with both of them left free, and TEMP's two rows are one per value of `degree`. -/

namespace Sys2Proof.Machine

/-- Settles O28: the table's rows and the two labels by evaluation, each row for every board. -/
theorem unitsLookupTable : Obligations.UnitsLookupTable := by
  refine ⟨fun degree board => ?_, rfl, rfl⟩
  exact ⟨rfl, rfl, rfl, rfl, rfl, rfl, rfl, rfl, rfl, rfl, rfl, rfl, rfl, rfl, rfl, rfl, rfl⟩

end Sys2Proof.Machine
end

section
/-! PROOFS of 46_session_ops.md: the commands, O12, O13, O23, O34 to O37, O40, O48 and O49. A command's answer by its
mode, INIT and TEARDOWN are read off the equations of their operations. O13 says that dropping the host's offers from
the tape commutes with every operation of a command in progress (`State.withoutOffers`). For O48 and O49 an acquisition
that finds an encoded row in `Q` captures its frame (`exec_command_of_encodedRow`), which decodes to that row; DISCARD
repeats this for each row (`Draining`), by induction over the rows. -/

namespace Sys2Proof

/-- A decode row is encoded in 11 bytes (R60). -/
theorem length_encode_of_payload (c : Cfg) (hc : c.valid = true) (i : Instr) (p : Payload) (h : i.payload? = some p) :
    (encode c i).length = 11 := by
  obtain ⟨f, rng, hrow⟩ := exists_rowInstr_of_payload c hc i p h
  simp [encode_of_rowInstr c f rng p i hrow, frameBytes]

/-- A captured frame whose bytes are the encoding of a well-formed decode row decodes to that row (R81). -/
theorem decodeFrame_of_toList_eq_encode (c : Cfg) (hc : c.valid = true) (F : Frame) (i : Instr) (hw : i.wf = true)
    (hF : F.toList = encode c i) : decodeFrame c F = .ok i := by
  rw [← Machine.decode_toList_eq_ok_iff, hF]
  exact Machine.decodeUndoesEncode c i hc hw

end Sys2Proof

namespace Sys2Proof.Machine

/-! ### The commands by mode (R205, R208, R209) -/

/-- Settles O36: both reserved arms raise BadCommand, whose effect is none. -/
theorem reservedCommandsAnswerBadCommand : Obligations.ReservedCommandsAnswerBadCommand :=
  fun s => ⟨congrArg Host.Outcome.next s.raise_badCommand, congrArg Host.Outcome.next s.raise_badCommand⟩

/-- A TransportFailure in a failed session changes no register (R225). -/
theorem State.raise_transportFailure_of_failed (s : State) (hf : s.failed = true) :
    s.raise .transportFailure = s.withError .transportFailure .none := by
  change { s with failed := true }.withError .transportFailure .none = s.withError .transportFailure .none
  rw [← hf]

/-- In CLOSED mode an admitted command answers NoSession (R208). -/
theorem whenLive_of_closed (s : State) (run : State → Host.Outcome State Fault Refusal) (hm : s.mode = .closed) :
    whenLive s run = .next (s.withError .noSession .none) := by
  rcases whenLive_cases s run with ⟨-, h⟩ | ⟨hm', -⟩ | ⟨hm', -⟩
  · exact h
  all_goals simp [hm] at hm'

/-- In FAILED mode an admitted command answers TransportFailure (R208). -/
theorem whenLive_of_failed (s : State) (run : State → Host.Outcome State Fault Refusal) (hm : s.mode = .failed) :
    whenLive s run = .next (s.withError .transportFailure .none) := by
  rcases whenLive_cases s run with ⟨hm', -⟩ | ⟨-, h⟩ | ⟨hm', -⟩
  · simp [hm] at hm'
  · rw [h, State.raise_transportFailure_of_failed s ((State.mode_eq_failed_iff s).1 hm).2]
  · simp [hm] at hm'

/-- In UNSYNCED mode an acquisition answers LostSync(NotSynced) (R206, R208). -/
theorem whenLive_acquire_of_unsynced (s : State) (a : Acq) (hm : s.mode = .unsynced) :
    whenLive s (acquire a) = .next (s.withError .lostSync .notSynced) := by
  obtain ⟨ho, hf, hs⟩ := (State.mode_eq_unsynced_iff s).1 hm
  simp [whenLive, ho, hf, acquire, hs]

/-- The commands that need a live session are admitted by `whenLive` (R208). -/
theorem exec_eq_whenLive (i : Instr) (hi : i ∈ [Instr.sync, .acqNb, .acqB, .discard]) :
    ∃ run, ∀ s, exec i s = whenLive s run := by
  simp only [List.mem_cons, List.not_mem_nil, or_false] at hi
  rcases hi with rfl | rfl | rfl | rfl <;> exact ⟨_, fun _ => rfl⟩

/-- The command of `a` is an acquisition of a live session (R202 to R204). -/
theorem exec_command_eq_whenLive (a : Acq) (s : State) : exec a.command s = whenLive s (acquire a) := by
  cases a <;> rfl

theorem exec_teardown_of_closed (s : State) (ho : s.opened = false) :
    exec .teardown s = .next (s.withError .noSession .none) := if_pos ho

theorem exec_teardown_of_opened (s : State) (ho : s.opened = true) :
    exec .teardown s = .next s.tClose.blockReset.respondOk := if_neg (by simp [ho])

/-- Settles O35: the two branches of TEARDOWN. -/
theorem teardownReleasesTheTransport : Obligations.TeardownReleasesTheTransport :=
  fun s => ⟨fun ho => exec_teardown_of_opened s ho, fun ho => exec_teardown_of_closed s ho⟩

/-- Settles O37: the admission refuses by the mode; only TEARDOWN has a test of its own. -/
theorem modesRefuseCommands : Obligations.ModesRefuseCommands := by
  refine fun s i => ⟨fun hm hi => ?closed, fun hm hi => ?failed, fun hm hi => ?unsynced⟩
  case closed =>
    rcases List.mem_append.1 (show i ∈ [Instr.sync, .acqNb, .acqB, .discard] ++ [.teardown] from hi) with hi | hi
    · obtain ⟨run, hrun⟩ := exec_eq_whenLive i hi
      rw [hrun, whenLive_of_closed s run hm]
    · obtain rfl := List.mem_singleton.1 hi
      exact exec_teardown_of_closed s ((State.mode_eq_closed_iff s).1 hm)
  case failed =>
    obtain ⟨run, hrun⟩ := exec_eq_whenLive i hi
    rw [hrun, whenLive_of_failed s run hm]
  case unsynced =>
    obtain ⟨a, rfl⟩ := (mem_acquiring_iff i).1 hi
    rw [exec_command_eq_whenLive, whenLive_acquire_of_unsynced s a hm]

/-! ### The idle block (R207) -/

/-- Settles O12: the step's two branches without an offer. -/
theorem idleBlockDoesNothing : Obligations.IdleBlockDoesNothing := by
  refine fun s hp => ⟨fun ht => ?silent, fun t rest ht hr hc => ?pause⟩
  case silent => simp [step, State.rstPending, State.nextOffer, hp, ht]
  case pause =>
    have hoffer : s.nextOffer = .pause (s.observe t rest) := by simp [State.nextOffer, ht, hc]
    have hrst : s.rstPending = false := by simp [State.rstPending, ht, hr]
    have hstep : step s = .next (s.observe t rest) := by simp [step, hrst, hp, hoffer]
    exact hstep

/-! ### INIT (R200) -/

/-- INIT waits where no turn may be used (R250, R273). -/
theorem awaitOpen_stop (b : Board) (s : State) (h : s.tape = [] ∨ s.rstPending = true) : awaitOpen b s = s := by
  cases ht : s.tape with
  | nil => simp [awaitOpen, ht]
  | cons t rest =>
    have hr : t.rst = true := by simpa [State.rstPending, ht] using h
    simp [awaitOpen, ht, hr]

section Answer

variable (b : Board) {s : State} {t : Turn} {rest : List Turn} (ht : s.tape = t :: rest) (hr : t.rst = false)
include ht hr

/-- `TOpen` answered `ok`: the session opens with the operand's board (R200). -/
theorem awaitOpen_of_ok {q0 : List Byte} (ho : t.topen = .ok q0) :
    awaitOpen b s = { (s.observe t rest).tOpened q0 with board := b, opened := true }.respondOk := by
  simp [awaitOpen, ht, hr, ho]

/-- `TOpen` answered `fail` (R200, R226). -/
theorem awaitOpen_of_fail (ho : t.topen = .fail) : awaitOpen b s = (s.observe t rest).raise .initFailure := by
  simp [awaitOpen, ht, hr, ho]

end Answer

/-- The step that resumes a waiting INIT. -/
theorem step_of_opening (s : State) (b : Board) (hr : s.rstPending = false) (hp : s.phase = .opening b) :
    step s = .next (awaitOpen b s) := by
  simp [step, resume, hr, hp]

/-- Settles O34: the answers to `TOpen`, from the state at the start of INIT and from a waiting one. -/
theorem initOpensTheSession : Obligations.InitOpensTheSession := by
  refine ⟨fun b s t rest ht hr => ⟨fun q0 ho => ?ok, fun ho => ?fail⟩, fun b s hstop => ?wait,
    fun b s hp => ⟨fun ht => ?resumedWait, fun t rest ht hr => ⟨fun q0 ho => ?resumedOk, fun ho => ?resumedFail⟩⟩⟩
  case ok =>
    exact (execInit_eq b s).trans (congrArg _ (awaitOpen_of_ok b (s := { s.startInit b with link := _ }) ht hr ho))
  case fail =>
    exact (execInit_eq b s).trans (congrArg _ (awaitOpen_of_fail b (s := { s.startInit b with link := _ }) ht hr ho))
  case wait => exact (execInit_eq b s).trans (congrArg _ (awaitOpen_stop b { s.startInit b with link := _ } hstop))
  case resumedWait =>
    rw [step_of_opening s b (by simp [State.rstPending, ht]) hp, awaitOpen_stop b s (.inl ht)]
  all_goals rw [step_of_opening s b (by simp [State.rstPending, ht, hr]) hp]
  case resumedOk => rw [awaitOpen_of_ok b ht hr ho]; rfl
  case resumedFail => rw [awaitOpen_of_fail b ht hr ho]; rfl

/-! ### The ends of SYNC (R201) -/

/-- Settles O40: the four ways a scan can end, from the start of SYNC. -/
theorem syncEndsInOneOfThreeWays : Obligations.SyncEndsInOneOfThreeWays := by
  intro s ho hf
  refine ⟨_, exec_sync_of_live s ho hf, ?_⟩
  have hends : ScanEnds s.startSync (synchronize s) := scan_ends s.tape s.startSync
  generalize synchronize s = t at hends
  cases hends with
  | found hu =>
    obtain ⟨_, _, _, _, rfl⟩ := hu
    exact ⟨.inl ⟨rfl, rfl, rfl, hf⟩, rfl, rfl, rfl, ho, rfl, rfl, rfl, fun _ => ⟨rfl, rfl, rfl⟩⟩
  | late hu =>
    obtain ⟨_, _, _, _, rfl⟩ := hu
    exact ⟨.inr (.inl ⟨rfl, rfl, rfl, hf⟩), rfl, rfl, rfl, ho, rfl, rfl, rfl, fun _ => ⟨rfl, rfl, rfl⟩⟩
  | lost hu =>
    obtain ⟨_, _, _, _, rfl⟩ := hu
    exact ⟨.inr (.inr (.inl ⟨rfl, rfl, rfl, rfl⟩)), rfl, rfl, rfl, ho, rfl, rfl, rfl, fun _ => ⟨rfl, rfl, rfl⟩⟩
  | waits hu =>
    obtain ⟨_, _, _, _, rfl⟩ := hu
    exact ⟨.inr (.inr (.inr ⟨rfl, rfl, hf⟩)), rfl, rfl, rfl, ho, rfl, rfl, rfl, nofun⟩

/-! ### Runs of the machine -/

/-- A step that goes on is the first of a run. -/
theorem run_succ_of_next {s t : State} (h : step s = .next t) (k : Nat) :
    core.run (k + 1) s = core.run k t := by
  have hcore : core.step s = .next t := h
  simp only [Host.Core.run, hcore]

/-- Two states with the same step have the same runs of at least one step. -/
theorem run_succ_congr {s s' : State} (h : step s = step s') (k : Nat) : core.run (k + 1) s = core.run (k + 1) s' := by
  have hcore : core.step s = core.step s' := h
  simp only [Host.Core.run, hcore]

/-- A run of one step is the step. -/
theorem run_one (s : State) : core.run 1 s = step s := by
  have hcore : core.step s = step s := rfl
  simp only [Host.Core.run, hcore]
  cases step s <;> rfl

/-! ### An acquisition that finds an encoded row in `Q` (R202, R203, R206) -/

/-- `s` after the command of `a` captured the frame `F` in a turn at time `tp`, with the bytes `extra` left in `Q`. -/
def State.capturing (s : State) (a : Acq) (F : Frame) (extra : List Byte) (tp : Millis) (rest : List Turn) : State :=
  { s with x := F, phase := .captured a, q := extra, now := tp, tape := rest }

/-- With an empty buffer and the encoding of a decode row at the head of `Q`, one poll captures the row's frame and not
one byte more (R103). -/
theorem exec_command_of_encodedRow (a : Acq) (s : State) (i : Instr) (p : Payload) (extra : List Byte)
    (tp : Millis) (rest : List Turn) (hc : s.cfg.valid = true) (hp : i.payload? = some p) (hm : s.mode = .synced)
    (hcnt : s.cnt = 0) (hq : s.q = encode s.cfg i ++ extra) (ht : s.tape = pollTurn [] tp (.deliver 11) :: rest) :
    ∃ F : Frame, F.toList = encode s.cfg i ∧ exec a.command s = .next (s.capturing a F extra tp rest) := by
  have hlen := length_encode_of_payload s.cfg hc i p hp
  have hzero : s.cnt.toNat = 0 := by simp [hcnt]
  have hqueue : s.queueAfter (pollTurn [] tp (.deliver 11)) = encode s.cfg i ++ extra := by
    simp [State.queueAfter, pollTurn, hq]
  obtain ⟨hfull, -⟩ := onePollCompletesTheFrame s _ rest 11 hm (by omega) ht rfl rfl
  rw [hqueue, hzero] at hfull
  obtain ⟨F, hF, hexec⟩ := hfull (by omega) (by rw [List.length_append]; omega)
  refine ⟨F, ?_, ?_⟩
  · rw [hF, List.take_left' hlen]
    simp [State.held, hzero]
  · rw [hexec a.command a (by cases a <;> simp [Acq.command]), List.drop_left' hlen, ← hcnt]
    rfl

/-- The step after a capture runs the row that the frame decodes to (R206). -/
theorem step_capturing (s : State) (a : Acq) (F : Frame) (extra : List Byte) (tp : Millis) (rest : List Turn)
    (i : Instr) (hrest : ∀ t ∈ rest.head?, t.rst = false) (hd : decodeFrame s.cfg F = .ok i) :
    step (s.capturing a F extra tp rest) = exec i (s.capturing a F extra tp rest) :=
  step_of_captured_ok _ a i ((State.rstPending_eq_false_iff _).2 hrest) rfl hd

/-- The command words of the two acquisitions (R76). -/
theorem decodeCommand_acquisition {w : Nibble} {a : Acq}
    (h : (w, a) ∈ [((3 : Nibble), Acq.nonblocking), (4, .blocking)]) : decodeCommand w = a.command := by
  simp only [List.mem_cons, Prod.mk.injEq, List.not_mem_nil, or_false] at h
  rcases h with ⟨rfl, rfl⟩ | ⟨rfl, rfl⟩ <;> rfl

/-- An idle block takes the command offered in a turn without arrivals. -/
theorem State.takes_of_commandTurn {s : State} {w : Nibble} {tc : Millis} {rest : List Turn} {i : Instr}
    (hp : s.phase = .idle) (ht : s.tape = commandTurn w tc :: rest) (hw : decodeCommand w = i) : s.takes i :=
  ⟨by simp [State.rstPending, ht, commandTurn], hp, _, _, w, ht, rfl, hw⟩

theorem State.taken_q_of_commandTurn {s : State} {w : Nibble} {tc : Millis} {rest : List Turn}
    (ht : s.tape = commandTurn w tc :: rest) : s.taken.q = s.q := by
  simp [ht, arrivals, commandTurn]

/-- Settles O48: the first step takes the command and captures the row's frame, the second runs the row it decodes to. -/
theorem acquisitionRunsTheEncodedRow : Obligations.AcquisitionRunsTheEncodedRow := by
  intro s i p extra rest tc tp w a hwa hc hp hw hm hidle hcnt hq hhead ht
  have htake := step_of_takes s _ (State.takes_of_commandTurn hidle ht (decodeCommand_acquisition hwa))
  obtain ⟨F, hF, hcapture⟩ := exec_command_of_encodedRow a s.taken i p extra tp rest hc hp hm hcnt
    ((State.taken_q_of_commandTurn ht).trans hq) (by simp [ht])
  refine ⟨F, hF, (run_succ_of_next (htake.trans hcapture) 1).trans ((run_one _).trans ?_)⟩
  exact step_capturing s.taken a F extra tp rest i hhead (decodeFrame_of_toList_eq_encode s.cfg hc F i hw hF)

/-! ### A drain of whole frames (R204) -/

/-- A good frame drained by DISCARD is dropped and the drain goes on (R204). -/
theorem exec_row_of_drain (i : Instr) (p : Payload) (s : State) (hp : i.payload? = some p)
    (hs : s.phase = .captured .drain) : exec i s = .next (s.gathering .drain) := by
  obtain ⟨f, v, he, -⟩ := exec_row i p hp s
  rcases completeFrame_cases f v p s with ⟨-, h⟩ | ⟨hne, -⟩
  · exact he.trans h
  · exact absurd hs hne

/-- Settles O23: every decode row completes the frame, and a drain drops it. -/
theorem discardDropsEveryGoodFrame : Obligations.DiscardDropsEveryGoodFrame :=
  fun i p s hp hs => exec_row_of_drain i p s hp hs

/-- The step that resumes an acquisition of a synchronised session is its command (R206). -/
theorem step_of_gathering_eq_exec (s : State) (a : Acq) (hr : s.rstPending = false) (hp : s.phase = .gathering a)
    (hm : s.mode = .synced) : step s = exec a.command s := by
  rw [step_of_gathering s a hr hp, exec_command_eq_accumulate a s hm]

/-- The turns of a drain of `rows` at time `t`: a poll of 11 bytes for each row and one more. -/
def drainTurns (rows : List Instr) (t : Millis) (rest : List Turn) : List Turn :=
  (rows.map fun _ => pollTurn [] t (.deliver 11)) ++ pollTurn [] t (.deliver 11) :: rest

theorem drainTurns_head? (rows : List Instr) (t : Millis) (rest : List Turn) :
    (drainTurns rows t rest).head? = some (pollTurn [] t (.deliver 11)) := by
  cases rows <;> rfl

theorem rstPending_of_drainTurns {s : State} {rows : List Instr} {t : Millis} {rest : List Turn}
    (h : s.tape = drainTurns rows t rest) : s.rstPending = false := by
  rw [State.rstPending_eq_false_iff, h, drainTurns_head?]
  simp [pollTurn]

/-- DISCARD is about to poll with an empty buffer, and `Q` holds the encodings of `rows`. -/
structure Draining (rows : List Instr) (t : Millis) (rest : List Turn) (s : State) : Prop where
  valid : s.cfg.valid = true
  mode : s.mode = .synced
  phase : s.phase = .gathering .drain
  cnt : s.cnt = 0
  q : s.q = rows.flatMap (encode s.cfg)
  tape : s.tape = drainTurns rows t rest

/-- DISCARD has answered `OK` with nothing left of its stream. -/
structure Drained (rest : List Turn) (u : State) : Prop where
  phase : u.phase = .idle
  rValid : u.rValid = true
  rCode : u.rCode = .ok
  sample : u.sample = Sample.zero
  synced : u.synced = true
  cnt : u.cnt = 0
  q : u.q = []
  tape : u.tape = rest

section Drain

variable {rows : List Instr} {t : Millis} {rest : List Turn} {s : State}

theorem Draining.step_eq (h : Draining rows t rest s) : step s = exec .discard s :=
  step_of_gathering_eq_exec s .drain (rstPending_of_drainTurns h.tape) h.phase h.mode

/-- The empty queue ends the drain (R204). -/
theorem Draining.step_nil (h : Draining [] t rest s) : ∃ u, step s = .next u ∧ Drained rest u := by
  have hqueue : s.queueAfter (pollTurn [] t (.deliver 11)) = [] := by simp [State.queueAfter, pollTurn, h.q]
  have hcnt : s.cnt.toNat ≤ 10 := by simp [h.cnt]
  obtain ⟨-, -, hempty, -⟩ := emptyPollEndsOnlyTheNonblocking s _ rest 11 h.mode hcnt h.tape rfl rfl (.inr hqueue)
  obtain ⟨-, -, hsynced⟩ := (State.mode_eq_synced_iff s).1 h.mode
  exact ⟨_, h.step_eq.trans (hempty h.cnt), rfl, rfl, rfl, rfl, hsynced, h.cnt, hqueue, rfl⟩

/-- Each frame takes two steps: it is captured, and then dropped (R204). -/
theorem Draining.step_cons {i : Instr} (h : Draining (i :: rows) t rest s) (hp : i.payload?.isSome = true)
    (hw : i.wf = true) : ∃ c d, step s = .next c ∧ step c = .next d ∧ Draining rows t rest d := by
  obtain ⟨p, hp⟩ := Option.isSome_iff_exists.1 hp
  obtain ⟨F, hF, hexec⟩ := exec_command_of_encodedRow .drain s i p (rows.flatMap (encode s.cfg)) t
    (drainTurns rows t rest) h.valid hp h.mode h.cnt (h.q.trans List.flatMap_cons) h.tape
  refine ⟨_, _, h.step_eq.trans hexec,
    (step_capturing s .drain F _ t _ i ?_ ?_).trans (exec_row_of_drain i p _ hp rfl),
    h.valid, h.mode, rfl, h.cnt, rfl, rfl⟩
  · simp [drainTurns_head?, pollTurn]
  · exact decodeFrame_of_toList_eq_encode s.cfg h.valid F i hw hF

end Drain

/-- A drain of well-formed rows ends after two steps for each and one more, by induction over the rows (R204). -/
theorem Draining.run_drained (t : Millis) (rest : List Turn) (rows : List Instr) :
    ∀ s : State, (∀ i ∈ rows, i.payload?.isSome = true ∧ i.wf = true) → Draining rows t rest s →
      ∃ u, core.run (2 * rows.length + 1) s = .next u ∧ Drained rest u := by
  induction rows with
  | nil =>
    intro s _ h
    obtain ⟨u, hstep, hu⟩ := h.step_nil
    rw [List.length_nil, Nat.mul_zero, Nat.zero_add]
    exact ⟨u, (run_one s).trans hstep, hu⟩
  | cons i rows ih =>
    intro s hrows h
    obtain ⟨⟨hp, hw⟩, hrest⟩ := List.forall_mem_cons.1 hrows
    obtain ⟨c, d, hc, hd, hdrain⟩ := h.step_cons hp hw
    obtain ⟨u, hrun, hu⟩ := ih d hrest hdrain
    refine ⟨u, ?_, hu⟩
    rw [List.length_cons, Nat.mul_succ, run_succ_of_next hc, run_succ_of_next hd, hrun]

/-- Settles O49: the step that takes DISCARD is the first step of the drain. -/
theorem discardDrainsWholeFrames : Obligations.DiscardDrainsWholeFrames := by
  intro s rows rest t hc hrows hm hidle hcnt hq ht
  have hdrain : Draining rows t rest (s.taken.gathering .drain) :=
    ⟨hc, hm, rfl, hcnt, (State.taken_q_of_commandTurn ht).trans hq, congrArg List.tail ht⟩
  have hfirst : step s = step (s.taken.gathering .drain) :=
    calc step s = exec .discard s.taken := step_of_takes s _ (State.takes_of_commandTurn hidle ht rfl)
      _ = accumulate .drain s.taken := exec_command_eq_accumulate .drain s.taken hm
      _ = step (s.taken.gathering .drain) :=
        (step_of_gathering _ .drain (rstPending_of_drainTurns hdrain.tape) rfl).symm
  obtain ⟨u, hrun, hu⟩ := Draining.run_drained t rest rows _ hrows hdrain
  exact ⟨u, (run_succ_congr hfirst _).trans hrun, hu.phase, hu.rValid, hu.rCode, hu.sample, hu.synced, hu.cnt, hu.q,
    hu.tape⟩

/-! ### The host's offers (R207, R268) -/

/-- A turn with the host's offer removed. -/
@[simps]
def Turn.withoutOffer (u : Turn) : Turn := { u with cmd := none }

/-- The state with every offer on the tape removed. -/
@[simps]
def State.withoutOffers (s : State) : State := { s with tape := s.tape.map Turn.withoutOffer }

theorem State.withoutOffers_observe (s : State) (t : Turn) (rest : List Turn) :
    s.withoutOffers.observe t.withoutOffer (rest.map Turn.withoutOffer) = (s.observe t rest).withoutOffers := rfl

theorem State.withoutOffers_polled (s : State) (n : Nat) (rx : RxAnswer) :
    s.withoutOffers.polled n rx = (s.polled n rx).withoutOffers := rfl

theorem State.withoutOffers_append (s : State) (bs : List Byte) :
    s.withoutOffers.append bs = (s.append bs).withoutOffers := rfl

theorem State.withoutOffers_raise (s : State) (e : Err) : s.withoutOffers.raise e = (s.raise e).withoutOffers := by
  cases e with
  | lostSync c => cases c <;> rfl
  | wouldBlock | syncTimeout | transportFailure | noSession | initFailure | badCommand => rfl

theorem State.withoutOffers_rstPending (s : State) : s.withoutOffers.rstPending = s.rstPending := by
  simp only [State.rstPending, State.withoutOffers_tape]
  cases s.tape <;> rfl

/-- The scan reads no offer (R268). -/
theorem scan_withoutOffers (ts : List Turn) : ∀ s : State,
    scan (ts.map Turn.withoutOffer) s.withoutOffers = (scan ts s).withoutOffers := by
  induction ts with
  | nil => exact fun _ => rfl
  | cons t rest ih =>
    intro s
    have hlate : (s.observe t rest).withoutOffers.deadlinePassed = (s.observe t rest).deadlinePassed := rfl
    simp only [List.map_cons, scan, Turn.withoutOffer_rst, Turn.withoutOffer_rx, State.withoutOffers_observe, hlate,
      State.withoutOffers_q, State.withoutOffers_polled, State.withoutOffers_prevCr]
    split_ifs with hr hd
    · rfl
    · exact State.withoutOffers_raise _ _
    · cases pollAnswer 1 t.rx (s.observe t rest).q with
      | fail => exact State.withoutOffers_raise _ _
      | data bs =>
        cases bs with
        | nil => exact ih _
        | cons b bs =>
          dsimp only
          split_ifs
          · rfl
          · exact ih { (s.observe t rest).polled 1 t.rx with prevCr := decide (b = CR) }

/-- The end of a drain reads no offer. -/
theorem endDrain_withoutOffers (s : State) : endDrain s.withoutOffers = (endDrain s).withoutOffers := by
  unfold endDrain
  rw [State.withoutOffers_cnt]
  split_ifs
  · exact scan_withoutOffers s.tape s.startSync
  · rfl

/-- The Accumulator reads no offer (R268). -/
theorem gather_withoutOffers (a : Acq) (ts : List Turn) : ∀ s : State,
    gather a (ts.map Turn.withoutOffer) s.withoutOffers = (gather a ts s).withoutOffers := by
  induction ts with
  | nil => exact fun _ => rfl
  | cons t rest ih =>
    intro s
    have hmissing : (s.observe t rest).withoutOffers.missing = (s.observe t rest).missing := rfl
    simp only [List.map_cons, gather, Turn.withoutOffer_rst, Turn.withoutOffer_rx, State.withoutOffers_observe,
      hmissing, State.withoutOffers_q, State.withoutOffers_polled, State.withoutOffers_append, State.withoutOffers_cnt]
    split_ifs with hr
    · rfl
    · cases pollAnswer (s.observe t rest).missing t.rx (s.observe t rest).q with
      | fail => exact State.withoutOffers_raise _ _
      | data bs =>
        cases bs with
        | nil =>
          cases a with
          | nonblocking => exact State.withoutOffers_raise _ _
          | blocking => exact ih _
          | drain => exact endDrain_withoutOffers _
        | cons b bs =>
          dsimp only
          split_ifs
          · rfl
          · exact ih _

/-- A waiting INIT reads no offer (R268). -/
theorem awaitOpen_withoutOffers (b : Board) (s : State) :
    awaitOpen b s.withoutOffers = (awaitOpen b s).withoutOffers := by
  simp only [awaitOpen, State.withoutOffers_tape]
  cases s.tape with
  | nil => rfl
  | cons t rest =>
    simp only [List.map_cons, Turn.withoutOffer_rst, Turn.withoutOffer_topen]
    split_ifs
    · rfl
    · cases t.topen <;> rfl

/-- The end of an acquisition reads no offer. -/
theorem completeFrame_withoutOffers {f : Func} {v : Val} {p : Payload} {s t : State}
    (h : completeFrame f v p s = .next t) : completeFrame f v p s.withoutOffers = .next t.withoutOffers := by
  rcases completeFrame_cases f v p s with ⟨hp, hn⟩ | ⟨hp, hn⟩ <;>
    rcases completeFrame_cases f v p s.withoutOffers with ⟨hp', hn'⟩ | ⟨hp', hn'⟩
  · cases hn.symm.trans h; exact hn'
  · exact absurd hp hp'
  · exact absurd hp' hp
  · cases hn.symm.trans h; exact hn'

/-- The row of a captured frame reads no offer. -/
theorem exec_withoutOffers_of_captured {s t : State} {i : Instr} (hd : decodeFrame s.cfg s.x = .ok i)
    (h : exec i s = .next t) : exec i s.withoutOffers = .next t.withoutOffers := by
  obtain ⟨f, -, -, hrow⟩ := selectRow_ok _ _ _ ((decodeFrame_ok _ _ _).1 hd).2
  rcases rowInstr_uniform s.cfg f (loNib s.x[0]) with hbad | ⟨v, -, hv⟩
  · cases (hbad _).symm.trans hrow
  · obtain ⟨j, hj, hexec⟩ := hv (framePayload s.x)
    obtain rfl : j = i := Except.ok.inj (hj.symm.trans hrow)
    rw [hexec s rfl] at h
    rw [hexec s.withoutOffers rfl]
    exact completeFrame_withoutOffers h

/-- The reset input reads no offer. -/
theorem State.withoutOffers_applyRst (s : State) : s.withoutOffers.applyRst = s.applyRst.withoutOffers := by
  simp only [State.applyRst, State.withoutOffers_tape]
  cases s.tape <;> rfl

/-- The step at the reset input (R250). -/
theorem step_of_rstPending (s : State) (hr : s.rstPending = true) : step s = .next s.applyRst := if_pos hr

/-- Settles O13: what runs, by its phase, reads no offer. -/
theorem offersAreIgnoredWhileACommandRuns : Obligations.OffersAreIgnoredWhileACommandRuns := by
  intro s t hidle h
  change step s.withoutOffers = .next t.withoutOffers
  have hrst := s.withoutOffers_rstPending
  cases hr : s.rstPending with
  | true =>
    cases (step_of_rstPending s hr).symm.trans h
    rw [step_of_rstPending _ (hrst.trans hr), State.withoutOffers_applyRst]
  | false =>
    rw [hr] at hrst
    cases hp : s.phase with
    | idle => exact absurd hp hidle
    | opening b =>
      cases (step_of_opening s b hr hp).symm.trans h
      rw [step_of_opening _ b hrst hp, awaitOpen_withoutOffers]
    | scanning =>
      cases (step_of_scanning s hr hp).symm.trans h
      exact (step_of_scanning _ hrst hp).trans (congrArg _ (scan_withoutOffers s.tape s))
    | gathering a =>
      obtain ⟨hc, rfl⟩ := (accumulate_next a s t).1 ((step_of_gathering s a hr hp).symm.trans h)
      exact (step_of_gathering _ a hrst hp).trans
        ((accumulate_next a _ _).2 ⟨hc, (gather_withoutOffers a s.tape (s.gathering a)).symm⟩)
    | captured a =>
      cases hd : decodeFrame s.cfg s.x with
      | error c =>
        cases (step_of_captured_error s a c hr hp hd).symm.trans h
        exact (step_of_captured_error _ a c hrst hp hd).trans (congrArg _ (s.withoutOffers_raise _))
      | ok i =>
        exact (step_of_captured_ok _ a i hrst hp hd).trans
          (exec_withoutOffers_of_captured hd ((step_of_captured_ok s a i hr hp hd).symm.trans h))

end Sys2Proof.Machine
end

section
/-! PROOFS of 60_exceptions.md: the mode transitions of one step (R236), O54. What a step does to the mode is one of six
things (`ModeStep`), read off the cases of `StepsTo` under the invariant, which says in which mode each command runs;
each row of the table is a case split over them. The two commands that always reset the block are followed through
`exec`. -/

namespace Sys2Proof.Machine

/-! ### The mode after a response -/

/-- A refused command leaves the mode as it is (R208, R236). -/
theorem Refused.mode_raise {s : State} {e : Err} (he : Refused s e) : (s.raise e).mode = s.mode := by
  cases he with
  | reserved | closed | unsynced => rfl
  | failed hm => rw [State.raise_transportFailure_of_failed s ((State.mode_eq_failed_iff s).1 hm).2]; rfl

/-- A TransportFailure of an open session enters FAILED mode (R225). -/
theorem State.mode_raise_transportFailure (s : State) (ho : s.opened = true) :
    (s.raise .transportFailure).mode = .failed := by
  simp [State.mode_eq_failed_iff, ho]

/-! ### What a step does to the mode -/

/-- The modes in which a session polls (R235). -/
def Mode.live (m : Mode) : Prop := m = .synced ∨ m = .unsynced

theorem Mode.live.ne_closed {m : Mode} (h : m.live) : m ≠ .closed := by
  rcases h with rfl | rfl <;> exact nofun

theorem Mode.live.ne_failed {m : Mode} (h : m.live) : m ≠ .failed := by
  rcases h with rfl | rfl <;> exact nofun

/-- The mode and the response after a step: kept; CLOSED after a reset of the block; UNSYNCED after the OK of an INIT;
or what the loops of a live session lead to (R236). -/
inductive ModeStep (s t : State) : Prop
  | kept (hm : t.mode = s.mode)
  | reset (hm : t.mode = .closed) (hr : s.resets)
  | opened (hm : t.mode = .unsynced) (hp : t.phase = .idle) (hc : t.rCode = .ok) (b : Board)
      (hb : s.takes (.init b) ∨ (s.mode = .closed ∧ s.phase = .opening b))
  | fails (hs : s.mode.live) (hm : t.mode = .failed) (hp : t.phase = .idle) (hc : t.rCode = .transportFailure)
  | syncs (hs : s.mode.live) (hm : t.mode = .synced) (hp : t.phase = .idle) (hc : t.rCode = .ok)
  | loses (hs : s.mode.live) (hm : t.mode = .unsynced)
      (hp : t.phase = .scanning ∨ (t.phase = .idle ∧ (t.rCode = .lostSync ∨ t.rCode = .syncTimeout)))

/-- A scan in UNSYNCED mode, in a step from a live session (R114 to R116). -/
theorem ScanEnds.modeStep {s u t : State} (hs : s.mode.live) (hm : u.mode = .unsynced) (hp : u.phase = .scanning)
    (h : ScanEnds u t) : ModeStep s t := by
  obtain ⟨ho, hf, -⟩ := (State.mode_eq_unsynced_iff u).1 hm
  cases h with
  | waits hv => obtain ⟨_, _, _, _, rfl⟩ := hv; exact .loses hs hm (.inl hp)
  | late hv => obtain ⟨_, _, _, _, rfl⟩ := hv; exact .loses hs hm (.inr ⟨rfl, .inr rfl⟩)
  | lost hv =>
    obtain ⟨_, _, _, _, rfl⟩ := hv
    exact .fails hs (State.mode_raise_transportFailure _ ho) rfl rfl
  | found hv =>
    obtain ⟨_, _, _, _, rfl⟩ := hv
    exact .syncs hs ((State.mode_eq_synced_iff _).2 ⟨ho, hf, rfl⟩) rfl rfl

/-- A SYNC of a live session scans in UNSYNCED mode (R111). -/
theorem State.mode_startSync (s : State) (ho : s.opened = true) (hf : s.failed = false) :
    s.startSync.mode = .unsynced := by
  simp [State.mode_eq_unsynced_iff, ho, hf]

/-- The Accumulator in SYNCED mode (R100 to R106, R204). -/
theorem GatherEnds.modeStep {a : Acq} {s u t : State} (hs : s.mode = .synced) (hu : u.mode = .synced)
    (h : GatherEnds a u t) : ModeStep s t := by
  obtain ⟨ho, hf, -⟩ := (State.mode_eq_synced_iff u).1 hu
  cases h with
  | waits hv | wouldBlock hv | drained hv | full hv =>
    obtain ⟨_, _, _, _, _, -, rfl⟩ := hv
    exact .kept (hu.trans hs.symm)
  | lost hv =>
    obtain ⟨_, _, _, _, _, -, rfl⟩ := hv
    exact .fails (.inl hs) (State.mode_raise_transportFailure _ ho) rfl rfl
  | resync hv hscan =>
    obtain ⟨_, _, _, _, _, -, rfl⟩ := hv
    refine hscan.modeStep (.inl hs) ?_ rfl
    exact State.mode_startSync _ ho hf

/-- An INIT of a block at its reset values: it waits or fails in CLOSED mode, or opens the session in UNSYNCED mode
(R200). -/
theorem OpenEnds.mode_cases {b : Board} {s t : State} (ho : s.opened = false) (hf : s.failed = false)
    (hs : s.synced = false) (h : OpenEnds b s t) :
    (t.mode = .closed ∧ (t.phase = s.phase ∨ t.rCode = .initFailure)) ∨
      (t.mode = .unsynced ∧ t.phase = .idle ∧ t.rCode = .ok) := by
  have hm := (State.mode_eq_closed_iff s).2 ho
  cases h with
  | waits => exact .inl ⟨hm, .inl rfl⟩
  | fails => exact .inl ⟨hm, .inr rfl⟩
  | opens => exact .inr ⟨(State.mode_eq_unsynced_iff _).2 ⟨rfl, hf, hs⟩, rfl, rfl⟩

/-- A closed session is neither failed nor synchronised (R36). -/
theorem RegistersOk.closed_flags {s : State} (h : RegistersOk s) (ho : s.opened = false) :
    s.failed = false ∧ s.synced = false := by
  have hclosed := h.closed
  simp only [State.closedOk, ho, Bool.false_or, Bool.and_eq_true, Bool.not_eq_true'] at hclosed
  obtain ⟨⟨⟨⟨⟨⟨hs, hf⟩, -⟩, -⟩, -⟩, -⟩, -⟩ := hclosed
  exact ⟨hf, hs⟩

theorem State.live_of_opened {s : State} (ho : s.opened = true) (hf : s.failed = false) : s.mode.live := by
  cases hs : s.synced with
  | false => exact .inr ((State.mode_eq_unsynced_iff s).2 ⟨ho, hf, hs⟩)
  | true => exact .inl ((State.mode_eq_synced_iff s).2 ⟨ho, hf, hs⟩)

theorem StepsTo.modeStep {s t : State} (hst : StepsTo s t) (h : Inv s) : ModeStep s t := by
  have hphase := h.phase_ok
  cases hst with
  | reset hr => exact .reset rfl (.inl hr)
  | teardown hi => exact .reset rfl (.inr (.inl hi))
  | silent | pause | dropped | answered => exact .kept rfl
  | refuse _ he => exact .kept he.mode_raise
  | @init b _ hi hopen =>
    rcases hopen.mode_cases rfl rfl rfl with ⟨hm, -⟩ | ⟨hm, hp, hc⟩
    · exact .reset hm (.inr (.inr ⟨b, hi⟩))
    · exact .opened hm hp hc b (.inl hi)
  | @opening b _ hp hopen =>
    have hm : s.mode = .closed := by simpa [State.phaseOk, hp] using hphase
    have ho := (State.mode_eq_closed_iff s).1 hm
    obtain ⟨hf, hs⟩ := h.registers.closed_flags ho
    rcases hopen.mode_cases ho hf hs with ⟨hm', -⟩ | ⟨hm', hidle, hc⟩
    · exact .kept (hm'.trans hm.symm)
    · exact .opened hm' hidle hc b (.inr ⟨hm, hp⟩)
  | sync _ ho hf hscan => exact hscan.modeStep (State.live_of_opened ho hf) (State.mode_startSync s.taken ho hf) rfl
  | scanning hp hscan =>
    have hm : s.mode = .unsynced := by simpa [State.phaseOk, hp] using hphase
    exact hscan.modeStep (.inr hm) hm hp
  | acquire _ hm hends =>
    refine hends.modeStep hm ?_
    exact hm
  | gathering hp hends =>
    have hm := (State.phaseOk_of_gathering hp).1 hphase
    exact hends.modeStep hm hm
  | bad hp _ hn =>
    obtain ⟨hm, -⟩ := h.of_captured hp
    obtain ⟨ho, hf, -⟩ := (State.mode_eq_synced_iff s).1 hm
    rw [State.raise_lostSync_eq s _ hn]
    exact .loses (.inl hm) ((State.mode_eq_unsynced_iff _).2 ⟨ho, hf, rfl⟩) (.inr ⟨rfl, .inl rfl⟩)

/-! ### The resets of the block (R200, R205, R250) -/

theorem mode_of_rstPending {s t : State} (h : step s = .next t) (hr : s.rstPending = true) : t.mode = .closed := by
  obtain ⟨u, rest, hu⟩ := s.applyRst_of_rstPending hr
  cases (step_of_rstPending s hr).symm.trans h
  rw [hu]
  rfl

theorem mode_of_takes_teardown {s t : State} (h : step s = .next t) (hi : s.takes .teardown) : t.mode = .closed := by
  rw [step_of_takes s _ hi] at h
  cases ho : s.taken.opened with
  | false =>
    cases (exec_teardown_of_closed _ ho).symm.trans h
    exact (State.mode_eq_closed_iff _).2 ho
  | true =>
    cases (exec_teardown_of_opened _ ho).symm.trans h
    rfl

theorem mode_of_takes_init {s t : State} {b : Board} (h : step s = .next t) (hi : s.takes (.init b)) :
    (t.mode = .closed ∧ (t.phase = .opening b ∨ t.rCode = .initFailure)) ∨
      (t.mode = .unsynced ∧ t.phase = .idle ∧ t.rCode = .ok) := by
  rw [step_of_takes s _ hi] at h
  cases (execInit_eq b s.taken).symm.trans h
  exact (awaitOpen_ends b _).mode_cases rfl rfl rfl

/-! ### The transition table (R236) -/

/-- Settles O54: the rows about a reset from what it does, the others by the cases of `ModeStep`. -/
theorem modesChangeOnlyAsTheTableAllows : Obligations.ModesChangeOnlyAsTheTableAllows := by
  intro s t hinv h
  have hms := (step_stepsTo s t h).modeStep hinv
  refine ⟨fun hs => ?leavesClosed, fun hs ht => ?entersClosed, mode_of_rstPending h, mode_of_takes_teardown h,
    fun b hi => ?init, fun hs => ?leavesFailed, fun hs ht => ?entersFailed, fun hs ht => ?syncs,
    fun hs ht => ?losesSync⟩
  case init =>
    rcases mode_of_takes_init h hi with hc | ⟨hm, -, hok⟩
    exacts [.inl hc, .inr ⟨hm, hok⟩]
  case leavesClosed =>
    cases hms with
    | kept hm => exact .inl (hm.trans hs)
    | reset hm => exact .inl hm
    | opened hm hp hc b hb => exact .inr ⟨hm, hc, hp, b, hb.imp_right And.right⟩
    | fails hl | syncs hl | loses hl => exact absurd hs hl.ne_closed
  case entersClosed =>
    cases hms with
    | reset _ hr => exact hr
    | kept hm => exact absurd (hm.symm.trans ht) hs
    | opened hm | fails _ hm | syncs _ hm | loses _ hm => cases hm.symm.trans ht
  case leavesFailed =>
    cases hms with
    | kept hm => exact .inl (hm.trans hs)
    | reset hm => exact .inr (.inl hm)
    | opened hm _ hc b hb => exact .inr (.inr ⟨hm, hc, b, hb.resolve_right (by simp [hs])⟩)
    | fails hl | syncs hl | loses hl => exact absurd hs hl.ne_failed
  case entersFailed =>
    cases hms with
    | fails hl _ hp hc => exact ⟨hl.ne_closed, hp, hc⟩
    | kept hm => exact absurd (hm.symm.trans ht) hs
    | reset hm | opened hm | syncs _ hm | loses _ hm => cases hm.symm.trans ht
  case syncs =>
    cases hms with
    | syncs _ _ hp hc => exact ⟨hp, hc⟩
    | kept hm => cases hs.symm.trans (hm.symm.trans ht)
    | reset hm | opened hm | fails _ hm | loses _ hm => cases hm.symm.trans ht
  case losesSync =>
    cases hms with
    | loses _ _ hp => exact hp.imp_right fun ⟨hidle, hc⟩ => ⟨hidle, hc.imp_right .inl⟩
    | opened _ hp hc b hb => exact .inr ⟨hp, .inr (.inr ⟨hc, b, hb.resolve_right (by simp [hs])⟩)⟩
    | kept hm => cases hs.symm.trans (hm.symm.trans ht)
    | reset hm | fails _ hm | syncs _ hm => cases hm.symm.trans ht

end Sys2Proof.Machine
end

section
/-! PROOFS of 70_reset_and_hazards.md: the reset input, O2, and waiting, O14. A command that waits does one of three
things with a turn, whatever turns follow it: it ends, it goes on waiting, or it faults (`resume_turn`); a command just
taken does the same before any turn (`exec_command_endsOrWaits`). Two inductions over the turns follow from that: which
turns are used (`resume_runsOn`), and that more turns are as good later as at once (`resume_append`). -/

namespace Sys2Proof.Machine

/-! ### The turns still to come, and those used -/

/-- `s` with the turns `ts` still to come. -/
@[simps]
def State.onTape (s : State) (ts : List Turn) : State := { s with tape := ts }

/-- The scan reads its turns from its argument, not from the state. -/
theorem scan_onTape (s : State) (ts : List Turn) (t : Turn) (rest : List Turn) (hr : t.rst = false) :
    scan (t :: rest) (s.onTape ts) = scan (t :: rest) s := by
  simp only [scan, hr, Bool.false_eq_true, if_false]
  rfl

/-- The Accumulator reads its turns from its argument, not from the state. -/
theorem gather_onTape (a : Acq) (s : State) (ts : List Turn) (t : Turn) (rest : List Turn) (hr : t.rst = false) :
    gather a (t :: rest) (s.onTape ts) = gather a (t :: rest) s := by
  simp only [gather, hr, Bool.false_eq_true, if_false]
  rfl

/-- `t` comes from `s` by some turns of the tape, and none of them asserts `rst` (R250). -/
def UsesLiveTurns (s t : State) : Prop := ∃ used, s.tape = used ++ t.tape ∧ ∀ u ∈ used, u.rst = false

theorem UsesLiveTurns.of_tape_eq {s t : State} (h : t.tape = s.tape) : UsesLiveTurns s t :=
  ⟨[], h.symm, nofun⟩

/-- One turn before the others. -/
theorem UsesLiveTurns.after_turn {s v t : State} {u : Turn} (hs : s.tape = u :: v.tape) (hr : u.rst = false)
    (h : UsesLiveTurns v t) : UsesLiveTurns s t := by
  obtain ⟨used, htape, hlive⟩ := h
  exact ⟨u :: used, by rw [hs, htape]; rfl, List.forall_mem_cons.2 ⟨hr, hlive⟩⟩

/-! ### One turn of a waiting command -/

theorem not_waits_idle : ¬ Phase.idle.waits := by simp [Phase.waits]

theorem not_waits_captured (a : Acq) : ¬ (Phase.captured a).waits := by simp [Phase.waits]

/-- What a command does with the turns that follow, said for all of them at once: it is over, it waits for them, or it
faults (log 15). -/
inductive EndsOrWaits (run : List Turn → Host.Outcome State Fault Refusal) : Prop
  | ends (v : State) (hv : ¬ v.phase.waits) (h : ∀ ts, run ts = .next (v.onTape ts))
  | waits (v : State) (hv : v.phase.waits) (h : ∀ ts, run ts = resume (v.onTape ts))
  | faults (h : ∀ ts, run ts = .fault .bufferOverrun)

theorem resume_onTape_of_scanning (s : State) (hp : s.phase = .scanning) (ts : List Turn) :
    resume (s.onTape ts) = .next (scan ts (s.onTape ts)) :=
  resume_of_scanning (s.onTape ts) hp

theorem resume_of_gathering (s : State) (a : Acq) (hp : s.phase = .gathering a) : resume s = accumulate a s := by
  rw [resume, hp]

/-- With room for a byte it is the Accumulator's loop (R101). -/
theorem resume_onTape_of_gathering (s : State) (a : Acq) (hp : s.phase = .gathering a) (hc : s.cnt.toNat ≤ 10)
    (ts : List Turn) : resume (s.onTape ts) = .next (gather a ts (s.onTape ts)) := by
  rw [resume_of_gathering (s.onTape ts) a hp, (accumulate_next a (s.onTape ts) _).2 ⟨hc, rfl⟩, ← hp]
  rfl

theorem resume_onTape_of_opening (s : State) (b : Board) (hp : s.phase = .opening b) (ts : List Turn) :
    resume (s.onTape ts) = .next (awaitOpen b (s.onTape ts)) := by
  rw [resume, State.onTape_phase, hp]

theorem accumulate_of_full (a : Acq) {s : State} (hc : ¬ s.cnt.toNat ≤ 10) : accumulate a s = .fault .bufferOverrun :=
  if_neg hc

/-- An iteration of the scan (R113 to R116). -/
theorem scan_turn (s : State) (u : Turn) (hp : s.phase = .scanning) (hr : u.rst = false) :
    EndsOrWaits fun rest => .next (scan (u :: rest) s) := by
  rcases le_or_gt (s.cfg.deadline s.board) (u.now - s.t0).toNat with hd | hd
  · exact .ends ((s.observe u []).raise .syncTimeout) not_waits_idle fun rest => by rw [scan_of_late rest hr hd]; rfl
  · cases hx : u.rx with
    | fail =>
      exact .ends ((s.observe u []).raise .transportFailure) not_waits_idle
        fun rest => by rw [scan_of_fail rest hr hd hx]; rfl
    | deliver k =>
      by_cases h0 : k = 0 ∨ s.queueAfter u = []
      · refine .waits (s.observe u []) (.inl hp) fun rest => ?_
        rw [scan_of_empty rest hr hd hx h0, resume_onTape_of_scanning (s.observe u []) hp]
        rfl
      · obtain ⟨hk, hne⟩ := not_or.1 h0
        obtain ⟨b, bs, hq⟩ := List.exists_cons_of_ne_nil hne
        by_cases hm : s.prevCr = true ∧ b = LF
        · exact .ends (s.tookByte u [] bs).resynced not_waits_idle
            fun rest => by rw [scan_of_match rest hr hd hx hk hq hm]; rfl
        · refine .waits { s.tookByte u [] bs with prevCr := decide (b = CR) } (.inl hp) fun rest => ?_
          rw [scan_of_byte rest hr hd hx hk hq hm]
          exact (resume_onTape_of_scanning { s.tookByte u [] bs with prevCr := decide (b = CR) } hp rest).symm

/-- The end of a drain (R204): it answers, or a resynchronisation waits. -/
theorem endDrain_endsOrWaits (s : State) : EndsOrWaits fun rest => .next (endDrain (s.onTape rest)) := by
  by_cases hz : s.cnt = 0
  · exact .ends s.respondOk not_waits_idle fun rest => congrArg _ (endDrain_of_cnt_eq_zero (s.onTape rest) hz)
  · exact .waits s.startSync (.inl rfl) fun rest => congrArg _ (endDrain_of_cnt_ne_zero (s.onTape rest) hz)

/-- What follows an empty poll of the Accumulator (R104, R105, R204). -/
theorem afterEmptyPoll_endsOrWaits (a : Acq) (s : State) (hp : s.phase = .gathering a) (hc : s.cnt.toNat ≤ 10) :
    EndsOrWaits fun rest => .next (afterEmptyPoll a rest (s.onTape rest)) := by
  cases a with
  | nonblocking => exact .ends (s.raise .wouldBlock) not_waits_idle fun _ => rfl
  | blocking => exact .waits s (.inr (.inl ⟨_, hp⟩)) fun rest => (resume_onTape_of_gathering s _ hp hc rest).symm
  | drain => exact endDrain_endsOrWaits s

/-- A poll of the Accumulator (R101 to R106). -/
theorem gather_turn (a : Acq) (s : State) (u : Turn) (hp : s.phase = .gathering a) (hc : s.cnt.toNat ≤ 10)
    (hr : u.rst = false) : EndsOrWaits fun rest => .next (gather a (u :: rest) s) := by
  cases hx : u.rx with
  | fail =>
    exact .ends ((s.observe u []).raise .transportFailure) not_waits_idle
      fun rest => by rw [gather_of_fail a s u rest hr hx]; rfl
  | deliver k =>
    have hdel := s.deliveredBy_eq u k
    by_cases h0 : s.deliveredBy u k = 0
    · have hempty := fun rest => gather_of_empty a s u rest k hr hx h0
      simp only [hempty]
      exact afterEmptyPoll_endsOrWaits a (s.observe u []) hp hc
    · by_cases hn : s.cnt.toNat + s.deliveredBy u k = 11
      · exact .ends { s.fed u [] (s.deliveredBy u k) with cnt := 0, phase := .captured a } (not_waits_captured a)
          fun rest => by rw [gather_of_complete a s u rest k hr hx h0 hn]; rfl
      · have hroom : s.cnt.toNat + s.deliveredBy u k ≤ 10 := by omega
        have hcnt := s.fed_toNat_cnt u [] (s.deliveredBy u k) (by omega)
        refine .waits (s.fed u [] (s.deliveredBy u k)) (.inr (.inl ⟨a, hp⟩)) fun rest => ?_
        rw [gather_of_partial a s u rest k hr hx h0 hroom,
          resume_onTape_of_gathering (s.fed u [] _) a hp (hcnt.trans_le hroom)]
        rfl

/-- The answer to `TOpen` (R200). -/
theorem awaitOpen_turn (b : Board) (s : State) (u : Turn) (hr : u.rst = false) :
    EndsOrWaits fun rest => .next (awaitOpen b (s.onTape (u :: rest))) := by
  cases ho : u.topen with
  | fail =>
    exact .ends ((s.observe u []).raise .initFailure) not_waits_idle
      fun rest => by rw [awaitOpen_of_fail b rfl hr ho]; rfl
  | ok q0 =>
    exact .ends ({ (s.observe u []).tOpened q0 with board := b, opened := true }.respondOk) not_waits_idle
      fun rest => by rw [awaitOpen_of_ok b rfl hr ho]; rfl

/-- What a waiting command does with a turn (R273). -/
theorem resume_turn (s : State) (u : Turn) (hw : s.phase.waits) (hr : u.rst = false) :
    EndsOrWaits fun rest => resume (s.onTape (u :: rest)) := by
  rcases hw with hp | ⟨a, hp⟩ | ⟨b, hp⟩
  · simp only [resume_onTape_of_scanning s hp, scan_onTape s _ u _ hr]
    exact scan_turn s u hp hr
  · by_cases hc : s.cnt.toNat ≤ 10
    · simp only [resume_onTape_of_gathering s a hp hc, gather_onTape a s _ u _ hr]
      exact gather_turn a s u hp hc hr
    · exact .faults fun rest => (resume_of_gathering (s.onTape (u :: rest)) a hp).trans (accumulate_of_full a hc)
  · simp only [resume_onTape_of_opening s b hp]
    exact awaitOpen_turn b s u hr

/-! ### Where no turn may be used (R250, R273) -/

/-- The Accumulator polls only with room for a byte (R101). -/
theorem room_of_resume {s t : State} (h : resume s = .next t) (a : Acq) (hp : s.phase = .gathering a) :
    s.cnt.toNat ≤ 10 :=
  ((accumulate_next a s t).1 ((resume_of_gathering s a hp).symm.trans h)).1

/-- A command is left as it is where the turns end or the next one asserts `rst`. -/
theorem resume_stop (s : State) (hc : ∀ a, s.phase = .gathering a → s.cnt.toNat ≤ 10)
    (hstop : s.tape = [] ∨ s.rstPending = true) : resume s = .next s := by
  cases hp : s.phase with
  | idle | captured => rw [resume, hp]
  | opening b => exact (resume_onTape_of_opening s b hp s.tape).trans (congrArg _ (awaitOpen_stop b s hstop))
  | scanning => rw [resume_of_scanning s hp, scan_stop s s hstop]
  | gathering a =>
    exact (resume_onTape_of_gathering s a hp (hc a hp) s.tape).trans (congrArg _ (gather_stop a s s hstop))

theorem eq_of_resume_stop {s t : State} (h : resume s = .next t) (hstop : s.tape = [] ∨ s.rstPending = true) :
    t = s :=
  Host.Outcome.next.inj (h.symm.trans (resume_stop s (room_of_resume h) hstop))

/-! ### All turns of a waiting command -/

/-- `t` comes from `s` by turns without `rst`, and where it still waits no turn may be used (R250, R273). -/
structure RunsOn (s t : State) : Prop where
  used : UsesLiveTurns s t
  stops : t.phase.waits → t.tape = [] ∨ t.rstPending = true

theorem resume_onTape_runsOn (ts : List Turn) : ∀ s t : State, s.phase.waits → resume (s.onTape ts) = .next t →
    RunsOn (s.onTape ts) t := by
  induction ts with
  | nil =>
    intro s t _ h
    cases eq_of_resume_stop h (.inl rfl)
    exact ⟨.of_tape_eq rfl, fun _ => .inl rfl⟩
  | cons u rest ih =>
    intro s t hw h
    cases hr : u.rst with
    | true =>
      cases eq_of_resume_stop h (.inr hr)
      exact ⟨.of_tape_eq rfl, fun _ => .inr hr⟩
    | false =>
      cases resume_turn s u hw hr with
      | ends v hv hrun =>
        cases h.symm.trans (hrun rest)
        exact ⟨.after_turn (v := v.onTape rest) rfl hr (.of_tape_eq rfl), fun hp => absurd hp hv⟩
      | waits v hv hrun =>
        obtain ⟨hused, hstops⟩ := ih v t hv ((hrun rest).symm.trans h)
        exact ⟨hused.after_turn rfl hr, hstops⟩
      | faults hrun => cases h.symm.trans (hrun rest)

theorem resume_runsOn (s t : State) (h : resume s = .next t) : RunsOn s t := by
  cases hp : s.phase with
  | idle | captured =>
    rw [resume, hp] at h
    cases h
    exact ⟨.of_tape_eq rfl, by simp [hp, not_waits_idle, not_waits_captured]⟩
  | opening b => exact resume_onTape_runsOn s.tape s t (.inr (.inr ⟨b, hp⟩)) h
  | scanning => exact resume_onTape_runsOn s.tape s t (.inl hp) h
  | gathering a => exact resume_onTape_runsOn s.tape s t (.inr (.inl ⟨a, hp⟩)) h

/-- A command that waits at the end of its turns goes on with more turns as if they had been there (R273). -/
theorem resume_append (us ts : List Turn) : ∀ s t : State, s.phase.waits → resume (s.onTape ts) = .next t →
    t.tape = [] → t.phase.waits → resume (s.onTape (ts ++ us)) = resume (t.onTape us) := by
  induction ts with
  | nil =>
    intro s t _ h _ _
    cases eq_of_resume_stop h (.inl rfl)
    rfl
  | cons u rest ih =>
    intro s t hw h ht hp
    cases hr : u.rst with
    | true =>
      cases eq_of_resume_stop h (.inr hr)
      cases ht
    | false =>
      cases resume_turn s u hw hr with
      | ends v hv hrun =>
        cases h.symm.trans (hrun rest)
        exact absurd hp hv
      | waits v hv hrun =>
        calc resume (s.onTape (u :: rest ++ us)) = resume (v.onTape (rest ++ us)) := hrun (rest ++ us)
          _ = resume (t.onTape us) := ih v t hv ((hrun rest).symm.trans h) ht hp
      | faults hrun => cases h.symm.trans (hrun rest)

/-! ### A command just taken -/

/-- An acquisition by its mode (R206, R208). -/
theorem exec_acquisition_endsOrWaits (a : Acq) (s : State) : EndsOrWaits fun ts => exec a.command (s.onTape ts) := by
  cases hm : s.mode with
  | closed =>
    exact .ends (s.withError .noSession .none) not_waits_idle
      fun ts => (exec_command_eq_whenLive a _).trans (whenLive_of_closed (s.onTape ts) _ hm)
  | failed =>
    exact .ends (s.withError .transportFailure .none) not_waits_idle
      fun ts => (exec_command_eq_whenLive a _).trans (whenLive_of_failed (s.onTape ts) _ hm)
  | unsynced =>
    exact .ends (s.withError .lostSync .notSynced) not_waits_idle
      fun ts => (exec_command_eq_whenLive a _).trans (whenLive_acquire_of_unsynced (s.onTape ts) a hm)
  | synced =>
    exact .waits (s.gathering a) (.inr (.inl ⟨a, rfl⟩)) fun ts => exec_command_eq_accumulate a (s.onTape ts) hm

/-- SYNC by its mode (R201, R208). -/
theorem exec_sync_endsOrWaits (s : State) : EndsOrWaits fun ts => exec .sync (s.onTape ts) := by
  cases hm : s.mode with
  | closed =>
    exact .ends (s.withError .noSession .none) not_waits_idle
      fun ts => (modesRefuseCommands (s.onTape ts) .sync).1 hm (by simp)
  | failed =>
    exact .ends (s.withError .transportFailure .none) not_waits_idle
      fun ts => (modesRefuseCommands (s.onTape ts) .sync).2.1 hm (by simp)
  | unsynced =>
    obtain ⟨ho, hf, -⟩ := (State.mode_eq_unsynced_iff s).1 hm
    exact .waits s.startSync (.inl rfl) fun ts => exec_sync_of_live (s.onTape ts) ho hf
  | synced =>
    exact .waits s.startSync (.inl rfl) fun ts => exec_sync_of_synced (s.onTape ts) hm

/-- TEARDOWN uses no turn (R205). -/
theorem exec_teardown_endsOrWaits (s : State) : EndsOrWaits fun ts => exec .teardown (s.onTape ts) := by
  cases ho : s.opened with
  | false =>
    exact .ends (s.withError .noSession .none) not_waits_idle fun ts => exec_teardown_of_closed (s.onTape ts) ho
  | true =>
    exact .ends s.tClose.blockReset.respondOk not_waits_idle fun ts => exec_teardown_of_opened (s.onTape ts) ho

/-- What a command does with the turns after the one it is taken in (R200 to R209). -/
theorem exec_command_endsOrWaits (i : Instr) (hi : i.payload? = none) (s : State) :
    EndsOrWaits fun ts => exec i (s.onTape ts) := by
  cases i <;> simp only [Instr.payload?, reduceCtorEq] at hi
  case init b =>
    exact .waits { s.startInit b with link := s.link && !s.opened } (.inr (.inr ⟨b, rfl⟩))
      fun ts => execInit_eq b (s.onTape ts)
  case sync => exact exec_sync_endsOrWaits s
  case acqNb => exact exec_acquisition_endsOrWaits .nonblocking s
  case acqB => exact exec_acquisition_endsOrWaits .blocking s
  case discard => exact exec_acquisition_endsOrWaits .drain s
  case teardown => exact exec_teardown_endsOrWaits s
  case reserved0 => exact .ends (s.raise .badCommand) not_waits_idle fun _ => rfl
  case reserved7 => exact .ends (s.raise .badCommand) not_waits_idle fun _ => rfl

theorem exec_command_runsOn (i : Instr) (hi : i.payload? = none) (s t : State) (h : exec i s = .next t) :
    RunsOn s t := by
  cases exec_command_endsOrWaits i hi s with
  | ends v hv hrun =>
    cases h.symm.trans (hrun s.tape)
    exact ⟨.of_tape_eq rfl, fun hp => absurd hp hv⟩
  | waits v hv hrun =>
    obtain ⟨hused, hstops⟩ := resume_runsOn _ t ((hrun s.tape).symm.trans h)
    exact ⟨hused, hstops⟩
  | faults hrun => cases h.symm.trans (hrun s.tape)

/-! ### The turns a step uses (R250, R251) -/

/-- The step of a waiting command is its resumption. -/
theorem step_of_waits (s : State) (hw : s.phase.waits) (hr : s.rstPending = false) : step s = resume s := by
  rcases hw with hp | ⟨a, hp⟩ | ⟨b, hp⟩ <;> rw [step, hr, hp] <;> rfl

/-- A decode row uses no turn (R206). -/
theorem exec_row_tape (i : Instr) (p : Payload) (hi : i.payload? = some p) (s t : State) (h : exec i s = .next t) :
    t.tape = s.tape := by
  obtain ⟨f, v, he, -⟩ := exec_row i p hi s
  rcases completeFrame_cases f v p s with ⟨-, hn⟩ | ⟨-, hn⟩ <;> cases (he.trans hn).symm.trans h <;> rfl

theorem exec_usesLiveTurns (i : Instr) (s t : State) (h : exec i s = .next t) : UsesLiveTurns s t := by
  cases hi : i.payload? with
  | none => exact (exec_command_runsOn i hi s t h).used
  | some p => exact .of_tape_eq (exec_row_tape i p hi s t h)

/-- The turn of an idle block is without `rst`, and a command taken in it uses none with `rst` after it. -/
theorem step_usesLiveTurns (s t : State) (hr : s.rstPending = false) (h : step s = .next t) : UsesLiveTurns s t := by
  have hlive {u : Turn} {rest : List Turn} (ht : s.tape = u :: rest) : u.rst = false := by
    simpa [State.rstPending, ht] using hr
  cases hp : s.phase with
  | idle =>
    cases ht : s.tape with
    | nil =>
      cases ((idleBlockDoesNothing s hp).1 ht).symm.trans h
      exact .of_tape_eq rfl
    | cons u rest =>
      cases hc : u.cmd with
      | none =>
        cases ((idleBlockDoesNothing s hp).2 u rest ht (hlive ht) hc).symm.trans h
        exact .after_turn (v := s.observe u rest) ht (hlive ht) (.of_tape_eq rfl)
      | some w =>
        have hexec := exec_usesLiveTurns _ _ t ((step_of_idle_command s u rest w hp ht (hlive ht) hc).symm.trans h)
        exact hexec.after_turn ht (hlive ht)
  | captured a =>
    cases hd : decodeFrame s.cfg s.x with
    | error c =>
      cases (step_of_captured_error s a c hr hp hd).symm.trans h
      exact .of_tape_eq (by simp)
    | ok i => exact exec_usesLiveTurns i s t ((step_of_captured_ok s a i hr hp hd).symm.trans h)
  | opening | scanning | gathering =>
    have hw : s.phase.waits := by simp [Phase.waits, hp]
    exact (resume_runsOn s t ((step_of_waits s hw hr).symm.trans h)).used

/-- Settles O2: the step at the reset input is a reset, and what runs otherwise, command, row or resumption, stops
before it. -/
theorem resetInputAbandonsTheCommand : Obligations.ResetInputAbandonsTheCommand := by
  refine ⟨fun s t rest ht hr => ?reset, fun s t h => ?others⟩
  case reset => rw [step_of_rstPending s (by simp [State.rstPending, ht, hr]), State.applyRst, ht]; rfl
  case others =>
    rcases h with ⟨i, h⟩ | h | ⟨hr, h⟩
    · exact exec_usesLiveTurns i s t h
    · exact (resume_runsOn s t h).used
    · exact step_usesLiveTurns s t hr h

/-! ### Waiting (R262, R273) -/

/-- A command that waited at the end of its turns is resumed as if it had not (R273). -/
theorem exec_command_append (us ts : List Turn) (i : Instr) (hi : i.payload? = none) (s t : State)
    (h : exec i (s.onTape ts) = .next t) (ht : t.tape = []) (hp : t.phase.waits) :
    exec i (s.onTape (ts ++ us)) = resume (t.onTape us) := by
  cases exec_command_endsOrWaits i hi s with
  | ends v hv hrun =>
    cases h.symm.trans (hrun ts)
    exact absurd hp hv
  | waits v hv hrun =>
    exact (hrun (ts ++ us)).trans (resume_append us ts v t hv ((hrun ts).symm.trans h) ht hp)
  | faults hrun => cases h.symm.trans (hrun ts)

/-- The acquiring commands with what each runs the Accumulator for (R100). -/
theorem eq_command_of_mem {i : Instr} {a : Acq}
    (h : (i, a) ∈ [(Instr.acqNb, Acq.nonblocking), (.acqB, .blocking), (.discard, .drain)]) : i = a.command := by
  simp only [List.mem_cons, Prod.mk.injEq, List.not_mem_nil, or_false] at h
  rcases h with ⟨rfl, rfl⟩ | ⟨rfl, rfl⟩ | ⟨rfl, rfl⟩ <;> rfl

theorem payload_of_waiting_command {i : Instr}
    (h : i ∈ [Instr.sync, .acqNb, .acqB, .discard] ∨ ∃ b, i = .init b) : i.payload? = none := by
  simp only [List.mem_cons, List.not_mem_nil, or_false] at h
  rcases h with (rfl | rfl | rfl | rfl) | ⟨b, rfl⟩ <;> rfl

/-- Settles O14: more turns by induction over the first ones; the other clauses say where a command waits and what
goes on there. -/
theorem waitingForMoreTurnsIsInvisible : Obligations.WaitingForMoreTurnsIsInvisible := by
  refine ⟨fun s t ts us i hi h ht hp => ?more, step_of_waits, fun s i a hia hm => ⟨fun hp hr => ?again,
    fun hc hstop => ?takenAtTheEnd⟩, fun s _ hc hstop => resume_stop s (fun _ _ => hc) hstop, fun s t h hp => ?stops⟩
  case more => exact exec_command_append us ts i (payload_of_waiting_command hi) s t h ht hp
  case again =>
    obtain rfl := eq_command_of_mem hia
    exact step_of_gathering_eq_exec s a hr hp hm
  case takenAtTheEnd =>
    obtain rfl := eq_command_of_mem hia
    exact (exec_command_of_synced a s hm hc).trans (congrArg _ (gather_stop a s (s.gathering a) hstop))
  case stops =>
    rcases h with ⟨i, hi, h⟩ | h
    · exact (exec_command_runsOn i hi s t h).stops hp
    · exact (resume_runsOn s t h).stops hp

end Sys2Proof.Machine
end
